-- ==== Sys2Proof/Word.lean ====
section
/-! DEFINITION. The word types of the MOS6502-HR core (spec/00_scope.md R6, R7). -/

namespace Sys2Proof

/-- A register, a memory cell, an opcode or operand byte, the packed status: 8 bits (R6). -/
abbrev Byte := BitVec 8

/-- The program counter and every memory address: 16 bits (R6, R40). -/
abbrev Addr := BitVec 16

end Sys2Proof
end

