-- ==== Sys2Proof/Config.lean ====
section
/-! DEFINITION. The two configuration inputs (spec/00_scope.md R5) and the fixed parameters (R6) of
the MOS6502-HR core. No free value exists: spec/10_state.md R33 says no rule draws one. -/

namespace Sys2Proof

/-- R5: the configuration inputs, sampled at construction and at every reset and constant between
resets. DESIGN CHOICE, safe (log 1): `State` carries them as data that no step changes. -/
structure Config where
  /-- `initial_pc`: the value reset loads into PC. -/
  initialPc : Addr := 0x0600#16
  /-- `allow_illegal_ops`: the illegal table is part of the active table (R64). -/
  allowIllegalOps : Bool := false
deriving DecidableEq, Repr

/-- R6: stack page base. -/
def stackBase : Addr := 0x0100#16

/-- R6: address of the low byte of the BRK vector; the high byte stands at the next address. -/
def brkVector : Addr := 0xFFFE#16

/-- R6: SP after reset. -/
def resetSp : Byte := 0xFF#8

/-- R6, R28: the number of cells of the memory. -/
def memorySize : Nat := 65536

/-- R29, R42: what a cell that nothing has written since reset reads as. -/
def unwrittenByte : Byte := 0x00#8

end Sys2Proof
end

