-- ==== Sys2Proof/Syntax.lean ====
section
/-! DEFINITION. The instructions of the MOS6502-HR core as syntax: one constructor per row of
spec/opcode_table.json, and the classifications of spec/30_encoding.md that depend on the row alone
(mnemonic, addressing mode, format, length, table). An operand is the byte `b` or the
little-endian word `w` that follows the opcode byte (R60, R62). -/

namespace Sys2Proof

/-- The rows of spec/opcode_table.json. A suffix names the addressing mode: Imm immediate, Zp zero
page, ZpX zero page,X, ZpY zero page,Y, Abs absolute, AbsX absolute,X, AbsY absolute,Y, Ind
(indirect), IndX (zp,X), IndY (zp),Y, Acc accumulator; no suffix is implied, relative, or the one
mode the mnemonic has. The illegal NOP rows carry their opcode byte, since several share a mode. -/
inductive Instr where
  | ldaImm (b : Byte) | ldaZp (b : Byte) | ldaZpX (b : Byte) | ldaAbs (w : Addr)
  | ldaAbsX (w : Addr) | ldaAbsY (w : Addr) | ldaIndX (b : Byte) | ldaIndY (b : Byte)
  | ldxImm (b : Byte) | ldxZp (b : Byte) | ldxZpY (b : Byte) | ldxAbs (w : Addr)
  | ldxAbsY (w : Addr)
  | ldyImm (b : Byte) | ldyZp (b : Byte) | ldyZpX (b : Byte) | ldyAbs (w : Addr)
  | ldyAbsX (w : Addr)
  | staZp (b : Byte) | staZpX (b : Byte) | staAbs (w : Addr) | staAbsX (w : Addr)
  | staAbsY (w : Addr) | staIndX (b : Byte) | staIndY (b : Byte)
  | stxZp (b : Byte) | stxZpY (b : Byte) | stxAbs (w : Addr)
  | styZp (b : Byte) | styZpX (b : Byte) | styAbs (w : Addr)
  | tax
  | tay
  | txa
  | tya
  | tsx
  | txs
  | adcImm (b : Byte) | adcZp (b : Byte) | adcZpX (b : Byte) | adcAbs (w : Addr)
  | adcAbsX (w : Addr) | adcAbsY (w : Addr) | adcIndX (b : Byte) | adcIndY (b : Byte)
  | sbcImm (b : Byte) | sbcZp (b : Byte) | sbcZpX (b : Byte) | sbcAbs (w : Addr)
  | sbcAbsX (w : Addr) | sbcAbsY (w : Addr) | sbcIndX (b : Byte) | sbcIndY (b : Byte)
  | andImm (b : Byte) | andZp (b : Byte) | andZpX (b : Byte) | andAbs (w : Addr)
  | andAbsX (w : Addr) | andAbsY (w : Addr) | andIndX (b : Byte) | andIndY (b : Byte)
  | oraImm (b : Byte) | oraZp (b : Byte) | oraZpX (b : Byte) | oraAbs (w : Addr)
  | oraAbsX (w : Addr) | oraAbsY (w : Addr) | oraIndX (b : Byte) | oraIndY (b : Byte)
  | eorImm (b : Byte) | eorZp (b : Byte) | eorZpX (b : Byte) | eorAbs (w : Addr)
  | eorAbsX (w : Addr) | eorAbsY (w : Addr) | eorIndX (b : Byte) | eorIndY (b : Byte)
  | cmpImm (b : Byte) | cmpZp (b : Byte) | cmpZpX (b : Byte) | cmpAbs (w : Addr)
  | cmpAbsX (w : Addr) | cmpAbsY (w : Addr) | cmpIndX (b : Byte) | cmpIndY (b : Byte)
  | cpxImm (b : Byte) | cpxZp (b : Byte) | cpxAbs (w : Addr)
  | cpyImm (b : Byte) | cpyZp (b : Byte) | cpyAbs (w : Addr)
  | bitZp (b : Byte) | bitAbs (w : Addr)
  | incZp (b : Byte) | incZpX (b : Byte) | incAbs (w : Addr) | incAbsX (w : Addr)
  | decZp (b : Byte) | decZpX (b : Byte) | decAbs (w : Addr) | decAbsX (w : Addr)
  | inx
  | iny
  | dex
  | dey
  | aslAcc | aslZp (b : Byte) | aslZpX (b : Byte) | aslAbs (w : Addr) | aslAbsX (w : Addr)
  | lsrAcc | lsrZp (b : Byte) | lsrZpX (b : Byte) | lsrAbs (w : Addr) | lsrAbsX (w : Addr)
  | rolAcc | rolZp (b : Byte) | rolZpX (b : Byte) | rolAbs (w : Addr) | rolAbsX (w : Addr)
  | rorAcc | rorZp (b : Byte) | rorZpX (b : Byte) | rorAbs (w : Addr) | rorAbsX (w : Addr)
  | bcc (b : Byte)
  | bcs (b : Byte)
  | beq (b : Byte)
  | bne (b : Byte)
  | bmi (b : Byte)
  | bpl (b : Byte)
  | bvc (b : Byte)
  | bvs (b : Byte)
  | jmpAbs (w : Addr) | jmpInd (w : Addr)
  | jsr (w : Addr)
  | rts
  | pha
  | pla
  | php
  | plp
  | clc
  | sec
  | cli
  | sei
  | cld
  | sed
  | clv
  | nop
  | brk
  | rti
  | laxZp (b : Byte) | laxZpY (b : Byte) | laxAbs (w : Addr) | laxAbsY (w : Addr)
  | laxIndX (b : Byte) | laxIndY (b : Byte)
  | saxZp (b : Byte) | saxZpY (b : Byte) | saxAbs (w : Addr) | saxIndX (b : Byte)
  | sloZp (b : Byte) | sloZpX (b : Byte) | sloAbs (w : Addr) | sloAbsX (w : Addr)
  | sloAbsY (w : Addr) | sloIndX (b : Byte) | sloIndY (b : Byte)
  | rlaZp (b : Byte) | rlaZpX (b : Byte) | rlaAbs (w : Addr) | rlaAbsX (w : Addr)
  | rlaAbsY (w : Addr) | rlaIndX (b : Byte) | rlaIndY (b : Byte)
  | sreZp (b : Byte) | sreZpX (b : Byte) | sreAbs (w : Addr) | sreAbsX (w : Addr)
  | sreAbsY (w : Addr) | sreIndX (b : Byte) | sreIndY (b : Byte)
  | rraZp (b : Byte) | rraZpX (b : Byte) | rraAbs (w : Addr) | rraAbsX (w : Addr)
  | rraAbsY (w : Addr) | rraIndX (b : Byte) | rraIndY (b : Byte)
  | dcpZp (b : Byte) | dcpZpX (b : Byte) | dcpAbs (w : Addr) | dcpAbsX (w : Addr)
  | dcpAbsY (w : Addr) | dcpIndX (b : Byte) | dcpIndY (b : Byte)
  | iscZp (b : Byte) | iscZpX (b : Byte) | iscAbs (w : Addr) | iscAbsX (w : Addr)
  | iscAbsY (w : Addr) | iscIndX (b : Byte) | iscIndY (b : Byte)
  | nopImp1A | nopImp3A | nopImp5A | nopImp7A | nopImpDA | nopImpFA | nopImm80 (b : Byte)
  | nopImm82 (b : Byte) | nopImm89 (b : Byte) | nopImmC2 (b : Byte) | nopImmE2 (b : Byte)
  | nopZp04 (b : Byte) | nopZp44 (b : Byte) | nopZp64 (b : Byte) | nopZpX14 (b : Byte)
  | nopZpX34 (b : Byte) | nopZpX54 (b : Byte) | nopZpX74 (b : Byte) | nopZpXD4 (b : Byte)
  | nopZpXF4 (b : Byte) | nopAbs0C (w : Addr) | nopAbsX1C (w : Addr) | nopAbsX3C (w : Addr)
  | nopAbsX5C (w : Addr) | nopAbsX7C (w : Addr) | nopAbsXDC (w : Addr) | nopAbsXFC (w : Addr)
deriving DecidableEq, Repr

/-- The mnemonics of R65 and R66; `nopIll` is R66's "NOP (illegal)" row. -/
inductive Mnemonic where
  | lda | ldx | ldy | sta | stx | sty | tax | tay | txa | tya | tsx | txs | adc | sbc | and | ora
  | eor | cmp | cpx | cpy | bit | inc | dec | inx | iny | dex | dey | asl | lsr | rol | ror | bcc
  | bcs | beq | bne | bmi | bpl | bvc | bvs | jmp | jsr | rts | pha | pla | php | plp | clc | sec
  | cli | sei | cld | sed | clv | nop | brk | rti | lax | sax | slo | rla | sre | rra | dcp | isc
  | nopIll
deriving DecidableEq, Repr

/-- The addressing modes that name a memory cell (R85 to R88, R90, R91), with their operand. -/
inductive MemMode where
  | zp (b : Byte) | zpX (b : Byte) | zpY (b : Byte)
  | abs (w : Addr) | absX (w : Addr) | absY (w : Addr)
  | indX (b : Byte) | indY (b : Byte)
deriving DecidableEq, Repr

/-- The thirteen addressing modes (R82 to R92), with their operand. -/
inductive Mode where
  | implied | accumulator | immediate (b : Byte) | mem (m : MemMode) | indirect (w : Addr)
  | relative (b : Byte)
deriving DecidableEq, Repr

/-- The three formats of R60. -/
inductive Format where
  | f1 | f2 | f3
deriving DecidableEq, Repr

/-- R60: the number of bytes of a format. -/
def Format.length : Format → Nat
  | .f1 => 1
  | .f2 => 2
  | .f3 => 3

/-- The two opcode tables of R65 and R66. -/
inductive Table where
  | legal | illegal
deriving DecidableEq, Repr

/-- The format an addressing mode is used with (R60, last column). -/
def MemMode.format : MemMode → Format
  | .zp _ | .zpX _ | .zpY _ | .indX _ | .indY _ => .f2
  | .abs _ | .absX _ | .absY _ => .f3

/-- The format an addressing mode is used with (R60, last column). -/
def Mode.format : Mode → Format
  | .implied | .accumulator => .f1
  | .immediate _ | .relative _ => .f2
  | .mem m => m.format
  | .indirect _ => .f3

/-- The mnemonic of a row. -/
def Instr.mnemonic : Instr → Mnemonic
  | .ldaImm _ | .ldaZp _ | .ldaZpX _ | .ldaAbs _ | .ldaAbsX _ | .ldaAbsY _
  | .ldaIndX _ | .ldaIndY _ => .lda
  | .ldxImm _ | .ldxZp _ | .ldxZpY _ | .ldxAbs _ | .ldxAbsY _ => .ldx
  | .ldyImm _ | .ldyZp _ | .ldyZpX _ | .ldyAbs _ | .ldyAbsX _ => .ldy
  | .staZp _ | .staZpX _ | .staAbs _ | .staAbsX _ | .staAbsY _ | .staIndX _
  | .staIndY _ => .sta
  | .stxZp _ | .stxZpY _ | .stxAbs _ => .stx
  | .styZp _ | .styZpX _ | .styAbs _ => .sty
  | .tax => .tax
  | .tay => .tay
  | .txa => .txa
  | .tya => .tya
  | .tsx => .tsx
  | .txs => .txs
  | .adcImm _ | .adcZp _ | .adcZpX _ | .adcAbs _ | .adcAbsX _ | .adcAbsY _
  | .adcIndX _ | .adcIndY _ => .adc
  | .sbcImm _ | .sbcZp _ | .sbcZpX _ | .sbcAbs _ | .sbcAbsX _ | .sbcAbsY _
  | .sbcIndX _ | .sbcIndY _ => .sbc
  | .andImm _ | .andZp _ | .andZpX _ | .andAbs _ | .andAbsX _ | .andAbsY _
  | .andIndX _ | .andIndY _ => .and
  | .oraImm _ | .oraZp _ | .oraZpX _ | .oraAbs _ | .oraAbsX _ | .oraAbsY _
  | .oraIndX _ | .oraIndY _ => .ora
  | .eorImm _ | .eorZp _ | .eorZpX _ | .eorAbs _ | .eorAbsX _ | .eorAbsY _
  | .eorIndX _ | .eorIndY _ => .eor
  | .cmpImm _ | .cmpZp _ | .cmpZpX _ | .cmpAbs _ | .cmpAbsX _ | .cmpAbsY _
  | .cmpIndX _ | .cmpIndY _ => .cmp
  | .cpxImm _ | .cpxZp _ | .cpxAbs _ => .cpx
  | .cpyImm _ | .cpyZp _ | .cpyAbs _ => .cpy
  | .bitZp _ | .bitAbs _ => .bit
  | .incZp _ | .incZpX _ | .incAbs _ | .incAbsX _ => .inc
  | .decZp _ | .decZpX _ | .decAbs _ | .decAbsX _ => .dec
  | .inx => .inx
  | .iny => .iny
  | .dex => .dex
  | .dey => .dey
  | .aslAcc | .aslZp _ | .aslZpX _ | .aslAbs _ | .aslAbsX _ => .asl
  | .lsrAcc | .lsrZp _ | .lsrZpX _ | .lsrAbs _ | .lsrAbsX _ => .lsr
  | .rolAcc | .rolZp _ | .rolZpX _ | .rolAbs _ | .rolAbsX _ => .rol
  | .rorAcc | .rorZp _ | .rorZpX _ | .rorAbs _ | .rorAbsX _ => .ror
  | .bcc _ => .bcc
  | .bcs _ => .bcs
  | .beq _ => .beq
  | .bne _ => .bne
  | .bmi _ => .bmi
  | .bpl _ => .bpl
  | .bvc _ => .bvc
  | .bvs _ => .bvs
  | .jmpAbs _ | .jmpInd _ => .jmp
  | .jsr _ => .jsr
  | .rts => .rts
  | .pha => .pha
  | .pla => .pla
  | .php => .php
  | .plp => .plp
  | .clc => .clc
  | .sec => .sec
  | .cli => .cli
  | .sei => .sei
  | .cld => .cld
  | .sed => .sed
  | .clv => .clv
  | .nop => .nop
  | .brk => .brk
  | .rti => .rti
  | .laxZp _ | .laxZpY _ | .laxAbs _ | .laxAbsY _ | .laxIndX _ | .laxIndY _ => .lax
  | .saxZp _ | .saxZpY _ | .saxAbs _ | .saxIndX _ => .sax
  | .sloZp _ | .sloZpX _ | .sloAbs _ | .sloAbsX _ | .sloAbsY _ | .sloIndX _
  | .sloIndY _ => .slo
  | .rlaZp _ | .rlaZpX _ | .rlaAbs _ | .rlaAbsX _ | .rlaAbsY _ | .rlaIndX _
  | .rlaIndY _ => .rla
  | .sreZp _ | .sreZpX _ | .sreAbs _ | .sreAbsX _ | .sreAbsY _ | .sreIndX _
  | .sreIndY _ => .sre
  | .rraZp _ | .rraZpX _ | .rraAbs _ | .rraAbsX _ | .rraAbsY _ | .rraIndX _
  | .rraIndY _ => .rra
  | .dcpZp _ | .dcpZpX _ | .dcpAbs _ | .dcpAbsX _ | .dcpAbsY _ | .dcpIndX _
  | .dcpIndY _ => .dcp
  | .iscZp _ | .iscZpX _ | .iscAbs _ | .iscAbsX _ | .iscAbsY _ | .iscIndX _
  | .iscIndY _ => .isc
  | .nopImp1A | .nopImp3A | .nopImp5A | .nopImp7A | .nopImpDA | .nopImpFA
  | .nopImm80 _ | .nopImm82 _ | .nopImm89 _ | .nopImmC2 _ | .nopImmE2 _
  | .nopZp04 _ | .nopZp44 _ | .nopZp64 _ | .nopZpX14 _ | .nopZpX34 _ | .nopZpX54 _
  | .nopZpX74 _ | .nopZpXD4 _ | .nopZpXF4 _ | .nopAbs0C _ | .nopAbsX1C _
  | .nopAbsX3C _ | .nopAbsX5C _ | .nopAbsX7C _ | .nopAbsXDC _ | .nopAbsXFC _ => .nopIll

/-- The addressing mode of a row with its operand (the "mode" column of opcode_table.json). -/
def Instr.mode : Instr → Mode
  | .tax | .tay | .txa | .tya | .tsx | .txs | .inx | .iny | .dex | .dey | .rts
  | .pha | .pla | .php | .plp | .clc | .sec | .cli | .sei | .cld | .sed | .clv
  | .nop | .brk | .rti | .nopImp1A | .nopImp3A | .nopImp5A | .nopImp7A | .nopImpDA
  | .nopImpFA => .implied
  | .aslAcc | .lsrAcc | .rolAcc | .rorAcc => .accumulator
  | .ldaImm b | .ldxImm b | .ldyImm b | .adcImm b | .sbcImm b | .andImm b
  | .oraImm b | .eorImm b | .cmpImm b | .cpxImm b | .cpyImm b | .nopImm80 b
  | .nopImm82 b | .nopImm89 b | .nopImmC2 b | .nopImmE2 b => .immediate b
  | .ldaZp b | .ldxZp b | .ldyZp b | .staZp b | .stxZp b | .styZp b | .adcZp b
  | .sbcZp b | .andZp b | .oraZp b | .eorZp b | .cmpZp b | .cpxZp b | .cpyZp b
  | .bitZp b | .incZp b | .decZp b | .aslZp b | .lsrZp b | .rolZp b | .rorZp b
  | .laxZp b | .saxZp b | .sloZp b | .rlaZp b | .sreZp b | .rraZp b | .dcpZp b
  | .iscZp b | .nopZp04 b | .nopZp44 b | .nopZp64 b => .mem (.zp b)
  | .ldaZpX b | .ldyZpX b | .staZpX b | .styZpX b | .adcZpX b | .sbcZpX b
  | .andZpX b | .oraZpX b | .eorZpX b | .cmpZpX b | .incZpX b | .decZpX b
  | .aslZpX b | .lsrZpX b | .rolZpX b | .rorZpX b | .sloZpX b | .rlaZpX b
  | .sreZpX b | .rraZpX b | .dcpZpX b | .iscZpX b | .nopZpX14 b | .nopZpX34 b
  | .nopZpX54 b | .nopZpX74 b | .nopZpXD4 b | .nopZpXF4 b => .mem (.zpX b)
  | .ldxZpY b | .stxZpY b | .laxZpY b | .saxZpY b => .mem (.zpY b)
  | .ldaAbs w | .ldxAbs w | .ldyAbs w | .staAbs w | .stxAbs w | .styAbs w
  | .adcAbs w | .sbcAbs w | .andAbs w | .oraAbs w | .eorAbs w | .cmpAbs w
  | .cpxAbs w | .cpyAbs w | .bitAbs w | .incAbs w | .decAbs w | .aslAbs w
  | .lsrAbs w | .rolAbs w | .rorAbs w | .jmpAbs w | .jsr w | .laxAbs w | .saxAbs w
  | .sloAbs w | .rlaAbs w | .sreAbs w | .rraAbs w | .dcpAbs w | .iscAbs w
  | .nopAbs0C w => .mem (.abs w)
  | .ldaAbsX w | .ldyAbsX w | .staAbsX w | .adcAbsX w | .sbcAbsX w | .andAbsX w
  | .oraAbsX w | .eorAbsX w | .cmpAbsX w | .incAbsX w | .decAbsX w | .aslAbsX w
  | .lsrAbsX w | .rolAbsX w | .rorAbsX w | .sloAbsX w | .rlaAbsX w | .sreAbsX w
  | .rraAbsX w | .dcpAbsX w | .iscAbsX w | .nopAbsX1C w | .nopAbsX3C w
  | .nopAbsX5C w | .nopAbsX7C w | .nopAbsXDC w | .nopAbsXFC w => .mem (.absX w)
  | .ldaAbsY w | .ldxAbsY w | .staAbsY w | .adcAbsY w | .sbcAbsY w | .andAbsY w
  | .oraAbsY w | .eorAbsY w | .cmpAbsY w | .laxAbsY w | .sloAbsY w | .rlaAbsY w
  | .sreAbsY w | .rraAbsY w | .dcpAbsY w | .iscAbsY w => .mem (.absY w)
  | .jmpInd w => .indirect w
  | .ldaIndX b | .staIndX b | .adcIndX b | .sbcIndX b | .andIndX b | .oraIndX b
  | .eorIndX b | .cmpIndX b | .laxIndX b | .saxIndX b | .sloIndX b | .rlaIndX b
  | .sreIndX b | .rraIndX b | .dcpIndX b | .iscIndX b => .mem (.indX b)
  | .ldaIndY b | .staIndY b | .adcIndY b | .sbcIndY b | .andIndY b | .oraIndY b
  | .eorIndY b | .cmpIndY b | .laxIndY b | .sloIndY b | .rlaIndY b | .sreIndY b
  | .rraIndY b | .dcpIndY b | .iscIndY b => .mem (.indY b)
  | .bcc b | .bcs b | .beq b | .bne b | .bmi b | .bpl b | .bvc b | .bvs b => .relative b

/-- The table a mnemonic belongs to: the 56 of R65 or the nine of R66. -/
def Mnemonic.table : Mnemonic → Table
  | .lda | .ldx | .ldy | .sta | .stx | .sty | .tax | .tay | .txa | .tya | .tsx
  | .txs | .adc | .sbc | .and | .ora | .eor | .cmp | .cpx | .cpy | .bit | .inc
  | .dec | .inx | .iny | .dex | .dey | .asl | .lsr | .rol | .ror | .bcc | .bcs
  | .beq | .bne | .bmi | .bpl | .bvc | .bvs | .jmp | .jsr | .rts | .pha | .pla
  | .php | .plp | .clc | .sec | .cli | .sei | .cld | .sed | .clv | .nop | .brk
  | .rti => .legal
  | .lax | .sax | .slo | .rla | .sre | .rra | .dcp | .isc | .nopIll => .illegal

/-- The table a row stands in (R64 to R66). -/
def Instr.table (i : Instr) : Table := i.mnemonic.table

/-- The format of a row (R60). -/
def Instr.format (i : Instr) : Format := i.mode.format

/-- R61: the length of an instruction in bytes. -/
def Instr.length (i : Instr) : Nat := i.format.length

end Sys2Proof
end

