-- ==== Sys2Proof/WellFormed.lean ====
section
/-! DEFINITION. When an instruction is well formed for a configuration. The constructors of `Instr`
are exactly the rows of the opcode table and R69 of spec/30_encoding.md says "No operand value is
ever illegal", so the one check left is R64's: the row stands in the active table. -/

namespace Sys2Proof

/-- R64: the row is in the active table: a legal row always, an illegal row exactly when
`allow_illegal_ops` = 1. -/
def Instr.wf (allow : Bool) (i : Instr) : Bool :=
  match i.table with
  | .legal => true
  | .illegal => allow

end Sys2Proof
end

