-- ==== Sys2Proof/Decode.lean ====
section
/-! DEFINITION. The opcode table, the decoder (total on any bytes, rejecting by name), and the
encoder (spec/30_encoding.md R60 to R70). Dispatch is a lookup of the whole opcode byte (R60, R63);
the row found says how many operand bytes follow. -/

namespace Sys2Proof

/-! ## Words and their bytes (R62: a word is low byte first) -/

/-- `w[7:0]`: the low byte of a word. -/
def loByte (w : Addr) : Byte := BitVec.ofNat 8 w.toNat

/-- `w[15:8]`: the high byte of a word. -/
def hiByte (w : Addr) : Byte := BitVec.ofNat 8 (w.toNat / 256)

/-- `{hi, lo}`: "the 16-bit value hi8*256 + lo8" (00_scope.md R7). -/
def joinBytes (hi lo : Byte) : Addr := BitVec.ofNat 16 (hi.toNat * 256 + lo.toNat)

/-! ## The opcode table (R65, R66, R67) -/

/-- What a row of the opcode table makes of the bytes that follow the opcode (R60): an instruction
at once (F1), from one operand byte (F2), or from a little-endian operand word (F3). -/
inductive Shape where
  | f1 (i : Instr)
  | f2 (make : Byte → Instr)
  | f3 (make : Addr → Instr)

/-- A row of the opcode table: the table it stands in and its shape. -/
structure OpcodeRow where
  table : Table
  shape : Shape

/-- A row of the legal table, one byte long. -/
def legal1 (i : Instr) : Option OpcodeRow := some ⟨.legal, .f1 i⟩

/-- A row of the legal table, two bytes long. -/
def legal2 (make : Byte → Instr) : Option OpcodeRow := some ⟨.legal, .f2 make⟩

/-- A row of the legal table, three bytes long. -/
def legal3 (make : Addr → Instr) : Option OpcodeRow := some ⟨.legal, .f3 make⟩

/-- A row of the illegal table, one byte long. -/
def illegal1 (i : Instr) : Option OpcodeRow := some ⟨.illegal, .f1 i⟩

/-- A row of the illegal table, two bytes long. -/
def illegal2 (make : Byte → Instr) : Option OpcodeRow := some ⟨.illegal, .f2 make⟩

/-- A row of the illegal table, three bytes long. -/
def illegal3 (make : Addr → Instr) : Option OpcodeRow := some ⟨.illegal, .f3 make⟩

/-- R67: an opcode byte that stands in neither table. -/
def unmapped : Option OpcodeRow := none

/-- Opcode bytes 00 to 0F, in order. -/
def opcodes0 : List (Option OpcodeRow) :=
  [legal1 .brk, legal2 .oraIndX, unmapped, illegal2 .sloIndX, illegal2 .nopZp04, legal2 .oraZp,
   legal2 .aslZp, illegal2 .sloZp, legal1 .php, legal2 .oraImm, legal1 .aslAcc, unmapped,
   illegal3 .nopAbs0C, legal3 .oraAbs, legal3 .aslAbs, illegal3 .sloAbs]

/-- Opcode bytes 10 to 1F, in order. -/
def opcodes1 : List (Option OpcodeRow) :=
  [legal2 .bpl, legal2 .oraIndY, unmapped, illegal2 .sloIndY, illegal2 .nopZpX14, legal2 .oraZpX,
   legal2 .aslZpX, illegal2 .sloZpX, legal1 .clc, legal3 .oraAbsY, illegal1 .nopImp1A,
   illegal3 .sloAbsY, illegal3 .nopAbsX1C, legal3 .oraAbsX, legal3 .aslAbsX, illegal3 .sloAbsX]

/-- Opcode bytes 20 to 2F, in order. -/
def opcodes2 : List (Option OpcodeRow) :=
  [legal3 .jsr, legal2 .andIndX, unmapped, illegal2 .rlaIndX, legal2 .bitZp, legal2 .andZp,
   legal2 .rolZp, illegal2 .rlaZp, legal1 .plp, legal2 .andImm, legal1 .rolAcc, unmapped,
   legal3 .bitAbs, legal3 .andAbs, legal3 .rolAbs, illegal3 .rlaAbs]

/-- Opcode bytes 30 to 3F, in order. -/
def opcodes3 : List (Option OpcodeRow) :=
  [legal2 .bmi, legal2 .andIndY, unmapped, illegal2 .rlaIndY, illegal2 .nopZpX34, legal2 .andZpX,
   legal2 .rolZpX, illegal2 .rlaZpX, legal1 .sec, legal3 .andAbsY, illegal1 .nopImp3A,
   illegal3 .rlaAbsY, illegal3 .nopAbsX3C, legal3 .andAbsX, legal3 .rolAbsX, illegal3 .rlaAbsX]

/-- Opcode bytes 40 to 4F, in order. -/
def opcodes4 : List (Option OpcodeRow) :=
  [legal1 .rti, legal2 .eorIndX, unmapped, illegal2 .sreIndX, illegal2 .nopZp44, legal2 .eorZp,
   legal2 .lsrZp, illegal2 .sreZp, legal1 .pha, legal2 .eorImm, legal1 .lsrAcc, unmapped,
   legal3 .jmpAbs, legal3 .eorAbs, legal3 .lsrAbs, illegal3 .sreAbs]

/-- Opcode bytes 50 to 5F, in order. -/
def opcodes5 : List (Option OpcodeRow) :=
  [legal2 .bvc, legal2 .eorIndY, unmapped, illegal2 .sreIndY, illegal2 .nopZpX54, legal2 .eorZpX,
   legal2 .lsrZpX, illegal2 .sreZpX, legal1 .cli, legal3 .eorAbsY, illegal1 .nopImp5A,
   illegal3 .sreAbsY, illegal3 .nopAbsX5C, legal3 .eorAbsX, legal3 .lsrAbsX, illegal3 .sreAbsX]

/-- Opcode bytes 60 to 6F, in order. -/
def opcodes6 : List (Option OpcodeRow) :=
  [legal1 .rts, legal2 .adcIndX, unmapped, illegal2 .rraIndX, illegal2 .nopZp64, legal2 .adcZp,
   legal2 .rorZp, illegal2 .rraZp, legal1 .pla, legal2 .adcImm, legal1 .rorAcc, unmapped,
   legal3 .jmpInd, legal3 .adcAbs, legal3 .rorAbs, illegal3 .rraAbs]

/-- Opcode bytes 70 to 7F, in order. -/
def opcodes7 : List (Option OpcodeRow) :=
  [legal2 .bvs, legal2 .adcIndY, unmapped, illegal2 .rraIndY, illegal2 .nopZpX74, legal2 .adcZpX,
   legal2 .rorZpX, illegal2 .rraZpX, legal1 .sei, legal3 .adcAbsY, illegal1 .nopImp7A,
   illegal3 .rraAbsY, illegal3 .nopAbsX7C, legal3 .adcAbsX, legal3 .rorAbsX, illegal3 .rraAbsX]

/-- Opcode bytes 80 to 8F, in order. -/
def opcodes8 : List (Option OpcodeRow) :=
  [illegal2 .nopImm80, legal2 .staIndX, illegal2 .nopImm82, illegal2 .saxIndX, legal2 .styZp,
   legal2 .staZp, legal2 .stxZp, illegal2 .saxZp, legal1 .dey, illegal2 .nopImm89, legal1 .txa,
   unmapped, legal3 .styAbs, legal3 .staAbs, legal3 .stxAbs, illegal3 .saxAbs]

/-- Opcode bytes 90 to 9F, in order. -/
def opcodes9 : List (Option OpcodeRow) :=
  [legal2 .bcc, legal2 .staIndY, unmapped, unmapped, legal2 .styZpX, legal2 .staZpX,
   legal2 .stxZpY, illegal2 .saxZpY, legal1 .tya, legal3 .staAbsY, legal1 .txs, unmapped,
   unmapped, legal3 .staAbsX, unmapped, unmapped]

/-- Opcode bytes A0 to AF, in order. -/
def opcodesA : List (Option OpcodeRow) :=
  [legal2 .ldyImm, legal2 .ldaIndX, legal2 .ldxImm, illegal2 .laxIndX, legal2 .ldyZp,
   legal2 .ldaZp, legal2 .ldxZp, illegal2 .laxZp, legal1 .tay, legal2 .ldaImm, legal1 .tax,
   unmapped, legal3 .ldyAbs, legal3 .ldaAbs, legal3 .ldxAbs, illegal3 .laxAbs]

/-- Opcode bytes B0 to BF, in order. -/
def opcodesB : List (Option OpcodeRow) :=
  [legal2 .bcs, legal2 .ldaIndY, unmapped, illegal2 .laxIndY, legal2 .ldyZpX, legal2 .ldaZpX,
   legal2 .ldxZpY, illegal2 .laxZpY, legal1 .clv, legal3 .ldaAbsY, legal1 .tsx, unmapped,
   legal3 .ldyAbsX, legal3 .ldaAbsX, legal3 .ldxAbsY, illegal3 .laxAbsY]

/-- Opcode bytes C0 to CF, in order. -/
def opcodesC : List (Option OpcodeRow) :=
  [legal2 .cpyImm, legal2 .cmpIndX, illegal2 .nopImmC2, illegal2 .dcpIndX, legal2 .cpyZp,
   legal2 .cmpZp, legal2 .decZp, illegal2 .dcpZp, legal1 .iny, legal2 .cmpImm, legal1 .dex,
   unmapped, legal3 .cpyAbs, legal3 .cmpAbs, legal3 .decAbs, illegal3 .dcpAbs]

/-- Opcode bytes D0 to DF, in order. -/
def opcodesD : List (Option OpcodeRow) :=
  [legal2 .bne, legal2 .cmpIndY, unmapped, illegal2 .dcpIndY, illegal2 .nopZpXD4, legal2 .cmpZpX,
   legal2 .decZpX, illegal2 .dcpZpX, legal1 .cld, legal3 .cmpAbsY, illegal1 .nopImpDA,
   illegal3 .dcpAbsY, illegal3 .nopAbsXDC, legal3 .cmpAbsX, legal3 .decAbsX, illegal3 .dcpAbsX]

/-- Opcode bytes E0 to EF, in order. -/
def opcodesE : List (Option OpcodeRow) :=
  [legal2 .cpxImm, legal2 .sbcIndX, illegal2 .nopImmE2, illegal2 .iscIndX, legal2 .cpxZp,
   legal2 .sbcZp, legal2 .incZp, illegal2 .iscZp, legal1 .inx, legal2 .sbcImm, legal1 .nop,
   unmapped, legal3 .cpxAbs, legal3 .sbcAbs, legal3 .incAbs, illegal3 .iscAbs]

/-- Opcode bytes F0 to FF, in order. -/
def opcodesF : List (Option OpcodeRow) :=
  [legal2 .beq, legal2 .sbcIndY, unmapped, illegal2 .iscIndY, illegal2 .nopZpXF4, legal2 .sbcZpX,
   legal2 .incZpX, illegal2 .iscZpX, legal1 .sed, legal3 .sbcAbsY, illegal1 .nopImpFA,
   illegal3 .iscAbsY, illegal3 .nopAbsXFC, legal3 .sbcAbsX, legal3 .incAbsX, illegal3 .iscAbsX]

/-- The opcode table by high nibble: R65 and R66 as one matrix. -/
def opcodeMatrix : List (List (Option OpcodeRow)) :=
  [opcodes0, opcodes1, opcodes2, opcodes3, opcodes4, opcodes5, opcodes6, opcodes7] ++
  [opcodes8, opcodes9, opcodesA, opcodesB, opcodesC, opcodesD, opcodesE, opcodesF]

/-- The entry at a position of a list of optional rows; past its end there is none. -/
def rowAt : List (Option OpcodeRow) → Nat → Option OpcodeRow
  | [], _ => none
  | r :: _, 0 => r
  | _ :: rs, n + 1 => rowAt rs n

/-- The list at a position of a list of lists; past its end the empty list. -/
def lineAt : List (List (Option OpcodeRow)) → Nat → List (Option OpcodeRow)
  | [], _ => []
  | l :: _, 0 => l
  | _ :: ls, n + 1 => lineAt ls n

/-- The row of an opcode byte in the union of the two tables. -/
def tableRow (op : Byte) : Option OpcodeRow :=
  rowAt (lineAt opcodeMatrix (op.toNat / 16)) (op.toNat % 16)

/-- R64: whether the rows of a table are in the active table. -/
def Table.active (allow : Bool) : Table → Bool
  | .legal => true
  | .illegal => allow

/-- R63, R64: the row of `op` in the active table, which the configuration input
`allow_illegal_ops` selects. -/
def lookup (allow : Bool) (op : Byte) : Option Shape :=
  match tableRow op with
  | some row => if row.table.active allow then some row.shape else none
  | none => none

/-! ## Decoding bytes -/

/-- What the decoder makes of a list of bytes. -/
inductive Decoded where
  /-- An instruction, and the bytes after its last one. -/
  | instr (i : Instr) (rest : List Byte)
  /-- R63: the first byte has no row in the active table. -/
  | unimplementedOpcode (op : Byte)
  /-- The list ends before the instruction does (never so in memory, where R60 counts addresses
  modulo 65536). -/
  | truncated
deriving DecidableEq, Repr

/-- R62: the operand bytes taken from a list, for the shape the opcode's row has. -/
def Shape.decode : Shape → List Byte → Decoded
  | .f1 i, bytes => .instr i bytes
  | .f2 make, b :: rest => .instr (make b) rest
  | .f3 make, lo :: hi :: rest => .instr (make (joinBytes hi lo)) rest
  | _, _ => .truncated

/-- R60 to R64: decode the instruction at the head of a list of bytes. -/
def decode (allow : Bool) : List Byte → Decoded
  | [] => .truncated
  | op :: bytes =>
    match lookup allow op with
    | some shape => shape.decode bytes
    | none => .unimplementedOpcode op

/-! ## Encoding -/

/-- The opcode byte of a row (R65, R66). -/
def Instr.opcode : Instr → Byte
  | .ldaImm _ => 0xA9#8 | .ldaZp _ => 0xA5#8 | .ldaZpX _ => 0xB5#8 | .ldaAbs _ => 0xAD#8
  | .ldaAbsX _ => 0xBD#8 | .ldaAbsY _ => 0xB9#8 | .ldaIndX _ => 0xA1#8 | .ldaIndY _ => 0xB1#8
  | .ldxImm _ => 0xA2#8 | .ldxZp _ => 0xA6#8 | .ldxZpY _ => 0xB6#8 | .ldxAbs _ => 0xAE#8
  | .ldxAbsY _ => 0xBE#8
  | .ldyImm _ => 0xA0#8 | .ldyZp _ => 0xA4#8 | .ldyZpX _ => 0xB4#8 | .ldyAbs _ => 0xAC#8
  | .ldyAbsX _ => 0xBC#8
  | .staZp _ => 0x85#8 | .staZpX _ => 0x95#8 | .staAbs _ => 0x8D#8 | .staAbsX _ => 0x9D#8
  | .staAbsY _ => 0x99#8 | .staIndX _ => 0x81#8 | .staIndY _ => 0x91#8
  | .stxZp _ => 0x86#8 | .stxZpY _ => 0x96#8 | .stxAbs _ => 0x8E#8
  | .styZp _ => 0x84#8 | .styZpX _ => 0x94#8 | .styAbs _ => 0x8C#8
  | .tax => 0xAA#8
  | .tay => 0xA8#8
  | .txa => 0x8A#8
  | .tya => 0x98#8
  | .tsx => 0xBA#8
  | .txs => 0x9A#8
  | .adcImm _ => 0x69#8 | .adcZp _ => 0x65#8 | .adcZpX _ => 0x75#8 | .adcAbs _ => 0x6D#8
  | .adcAbsX _ => 0x7D#8 | .adcAbsY _ => 0x79#8 | .adcIndX _ => 0x61#8 | .adcIndY _ => 0x71#8
  | .sbcImm _ => 0xE9#8 | .sbcZp _ => 0xE5#8 | .sbcZpX _ => 0xF5#8 | .sbcAbs _ => 0xED#8
  | .sbcAbsX _ => 0xFD#8 | .sbcAbsY _ => 0xF9#8 | .sbcIndX _ => 0xE1#8 | .sbcIndY _ => 0xF1#8
  | .andImm _ => 0x29#8 | .andZp _ => 0x25#8 | .andZpX _ => 0x35#8 | .andAbs _ => 0x2D#8
  | .andAbsX _ => 0x3D#8 | .andAbsY _ => 0x39#8 | .andIndX _ => 0x21#8 | .andIndY _ => 0x31#8
  | .oraImm _ => 0x09#8 | .oraZp _ => 0x05#8 | .oraZpX _ => 0x15#8 | .oraAbs _ => 0x0D#8
  | .oraAbsX _ => 0x1D#8 | .oraAbsY _ => 0x19#8 | .oraIndX _ => 0x01#8 | .oraIndY _ => 0x11#8
  | .eorImm _ => 0x49#8 | .eorZp _ => 0x45#8 | .eorZpX _ => 0x55#8 | .eorAbs _ => 0x4D#8
  | .eorAbsX _ => 0x5D#8 | .eorAbsY _ => 0x59#8 | .eorIndX _ => 0x41#8 | .eorIndY _ => 0x51#8
  | .cmpImm _ => 0xC9#8 | .cmpZp _ => 0xC5#8 | .cmpZpX _ => 0xD5#8 | .cmpAbs _ => 0xCD#8
  | .cmpAbsX _ => 0xDD#8 | .cmpAbsY _ => 0xD9#8 | .cmpIndX _ => 0xC1#8 | .cmpIndY _ => 0xD1#8
  | .cpxImm _ => 0xE0#8 | .cpxZp _ => 0xE4#8 | .cpxAbs _ => 0xEC#8
  | .cpyImm _ => 0xC0#8 | .cpyZp _ => 0xC4#8 | .cpyAbs _ => 0xCC#8
  | .bitZp _ => 0x24#8 | .bitAbs _ => 0x2C#8
  | .incZp _ => 0xE6#8 | .incZpX _ => 0xF6#8 | .incAbs _ => 0xEE#8 | .incAbsX _ => 0xFE#8
  | .decZp _ => 0xC6#8 | .decZpX _ => 0xD6#8 | .decAbs _ => 0xCE#8 | .decAbsX _ => 0xDE#8
  | .inx => 0xE8#8
  | .iny => 0xC8#8
  | .dex => 0xCA#8
  | .dey => 0x88#8
  | .aslAcc => 0x0A#8 | .aslZp _ => 0x06#8 | .aslZpX _ => 0x16#8 | .aslAbs _ => 0x0E#8
  | .aslAbsX _ => 0x1E#8
  | .lsrAcc => 0x4A#8 | .lsrZp _ => 0x46#8 | .lsrZpX _ => 0x56#8 | .lsrAbs _ => 0x4E#8
  | .lsrAbsX _ => 0x5E#8
  | .rolAcc => 0x2A#8 | .rolZp _ => 0x26#8 | .rolZpX _ => 0x36#8 | .rolAbs _ => 0x2E#8
  | .rolAbsX _ => 0x3E#8
  | .rorAcc => 0x6A#8 | .rorZp _ => 0x66#8 | .rorZpX _ => 0x76#8 | .rorAbs _ => 0x6E#8
  | .rorAbsX _ => 0x7E#8
  | .bcc _ => 0x90#8
  | .bcs _ => 0xB0#8
  | .beq _ => 0xF0#8
  | .bne _ => 0xD0#8
  | .bmi _ => 0x30#8
  | .bpl _ => 0x10#8
  | .bvc _ => 0x50#8
  | .bvs _ => 0x70#8
  | .jmpAbs _ => 0x4C#8 | .jmpInd _ => 0x6C#8
  | .jsr _ => 0x20#8
  | .rts => 0x60#8
  | .pha => 0x48#8
  | .pla => 0x68#8
  | .php => 0x08#8
  | .plp => 0x28#8
  | .clc => 0x18#8
  | .sec => 0x38#8
  | .cli => 0x58#8
  | .sei => 0x78#8
  | .cld => 0xD8#8
  | .sed => 0xF8#8
  | .clv => 0xB8#8
  | .nop => 0xEA#8
  | .brk => 0x00#8
  | .rti => 0x40#8
  | .laxZp _ => 0xA7#8 | .laxZpY _ => 0xB7#8 | .laxAbs _ => 0xAF#8 | .laxAbsY _ => 0xBF#8
  | .laxIndX _ => 0xA3#8 | .laxIndY _ => 0xB3#8
  | .saxZp _ => 0x87#8 | .saxZpY _ => 0x97#8 | .saxAbs _ => 0x8F#8 | .saxIndX _ => 0x83#8
  | .sloZp _ => 0x07#8 | .sloZpX _ => 0x17#8 | .sloAbs _ => 0x0F#8 | .sloAbsX _ => 0x1F#8
  | .sloAbsY _ => 0x1B#8 | .sloIndX _ => 0x03#8 | .sloIndY _ => 0x13#8
  | .rlaZp _ => 0x27#8 | .rlaZpX _ => 0x37#8 | .rlaAbs _ => 0x2F#8 | .rlaAbsX _ => 0x3F#8
  | .rlaAbsY _ => 0x3B#8 | .rlaIndX _ => 0x23#8 | .rlaIndY _ => 0x33#8
  | .sreZp _ => 0x47#8 | .sreZpX _ => 0x57#8 | .sreAbs _ => 0x4F#8 | .sreAbsX _ => 0x5F#8
  | .sreAbsY _ => 0x5B#8 | .sreIndX _ => 0x43#8 | .sreIndY _ => 0x53#8
  | .rraZp _ => 0x67#8 | .rraZpX _ => 0x77#8 | .rraAbs _ => 0x6F#8 | .rraAbsX _ => 0x7F#8
  | .rraAbsY _ => 0x7B#8 | .rraIndX _ => 0x63#8 | .rraIndY _ => 0x73#8
  | .dcpZp _ => 0xC7#8 | .dcpZpX _ => 0xD7#8 | .dcpAbs _ => 0xCF#8 | .dcpAbsX _ => 0xDF#8
  | .dcpAbsY _ => 0xDB#8 | .dcpIndX _ => 0xC3#8 | .dcpIndY _ => 0xD3#8
  | .iscZp _ => 0xE7#8 | .iscZpX _ => 0xF7#8 | .iscAbs _ => 0xEF#8 | .iscAbsX _ => 0xFF#8
  | .iscAbsY _ => 0xFB#8 | .iscIndX _ => 0xE3#8 | .iscIndY _ => 0xF3#8
  | .nopImp1A => 0x1A#8 | .nopImp3A => 0x3A#8 | .nopImp5A => 0x5A#8 | .nopImp7A => 0x7A#8
  | .nopImpDA => 0xDA#8 | .nopImpFA => 0xFA#8 | .nopImm80 _ => 0x80#8 | .nopImm82 _ => 0x82#8
  | .nopImm89 _ => 0x89#8 | .nopImmC2 _ => 0xC2#8 | .nopImmE2 _ => 0xE2#8 | .nopZp04 _ => 0x04#8
  | .nopZp44 _ => 0x44#8 | .nopZp64 _ => 0x64#8 | .nopZpX14 _ => 0x14#8 | .nopZpX34 _ => 0x34#8
  | .nopZpX54 _ => 0x54#8 | .nopZpX74 _ => 0x74#8 | .nopZpXD4 _ => 0xD4#8 | .nopZpXF4 _ => 0xF4#8
  | .nopAbs0C _ => 0x0C#8 | .nopAbsX1C _ => 0x1C#8 | .nopAbsX3C _ => 0x3C#8
  | .nopAbsX5C _ => 0x5C#8 | .nopAbsX7C _ => 0x7C#8 | .nopAbsXDC _ => 0xDC#8
  | .nopAbsXFC _ => 0xFC#8

/-- R62: the operand bytes of a memory mode. -/
def MemMode.operandBytes : MemMode → List Byte
  | .zp b | .zpX b | .zpY b | .indX b | .indY b => [b]
  | .abs w | .absX w | .absY w => [loByte w, hiByte w]

/-- R62: the operand bytes of a mode, in address order. -/
def Mode.operandBytes : Mode → List Byte
  | .implied | .accumulator => []
  | .immediate b | .relative b => [b]
  | .mem m => m.operandBytes
  | .indirect w => [loByte w, hiByte w]

/-- R60: the bytes of an instruction: the opcode byte, then the operand bytes. -/
def encode (i : Instr) : List Byte := i.opcode :: i.mode.operandBytes

/-! ## The host's bit numbering of an instruction -/

/-- The three bytes of a number whose bit 0 is bit 0 of the first byte, `nbits` bits long; every
bit above is 0. -/
def tableWordBytes (nbits w : Nat) : List Byte :=
  let v := w % 2 ^ nbits
  [BitVec.ofNat 8 v, BitVec.ofNat 8 (v / 256), BitVec.ofNat 8 (v / 65536)]

/-- The instruction the decoder reads from such a number, with both tables active. -/
def decodeTableWord (nbits w : Nat) : Option Instr :=
  match decode true (tableWordBytes nbits w) with
  | .instr i _ => some i
  | .unimplementedOpcode _ => none
  | .truncated => none

end Sys2Proof
end

