-- ==== Sys2Proof/Machine/State.lean ====
section
/-! DEFINITION. The state of the MOS6502-HR core (spec/10_state.md), the reasons a step can stop,
and the state right after reset (R32, R250). -/

namespace Sys2Proof.Machine

/-- R18: the seven independent 1-bit status flags. There is no stored bit 5. -/
structure Flags where
  /-- Carry. -/
  c : Bool
  /-- Zero. -/
  z : Bool
  /-- Interrupt-disable; it has no effect on execution (R235). -/
  i : Bool
  /-- Decimal-mode. -/
  d : Bool
  /-- Break: stored, written by BRK, PLP, RTI and reset, read by no instruction (R24). -/
  b : Bool
  /-- Overflow. -/
  v : Bool
  /-- Negative. -/
  n : Bool
deriving DecidableEq, Repr

/-- R28: the memory, as (address, byte) pairs. An address that is not listed reads as 0x00, the
value the spec defines for it (R29, R42). -/
abbrev Memory := List Host.Cell

/-- The canonical form of a memory: addresses strictly rising and inside the 65536 cells of R28, and
no entry equal to what an unlisted address reads as. Two memories in this form hold the same bytes
exactly when they are the same list. -/
def Memory.wf : Memory → Bool
  | [] => true
  | cell :: rest =>
    decide (cell.1 < memorySize) && cell.2 != unwrittenByte
      && rest.all (fun later => decide (cell.1 < later.1)) && Memory.wf rest

/-- All the state of one core instance (10_state.md section 1) and its configuration inputs. -/
structure State where
  /-- The accumulator (R10). -/
  a : Byte
  /-- Index register X (R10). -/
  x : Byte
  /-- Index register Y (R10). -/
  y : Byte
  /-- The stack index (R12). -/
  sp : Byte
  /-- The program counter (R14, R15). -/
  pc : Addr
  /-- The status flags (R18). -/
  flags : Flags
  /-- The memory the instance owns (R28). -/
  mem : Memory
  /-- The configuration inputs (R5); no step changes them (R251). DESIGN CHOICE, safe (log 1). -/
  config : Config
deriving DecidableEq, Repr

/-- Why a step stops. -/
inductive Fault where
  /-- R232: the opcode byte `op` has no row in the active table. Raised by `step` alone, before any
  part of an instruction has run. Safe: the model ends the run where the spec lets the host go on
  (R233); `stateAfterFault` is the state left behind (log 2). -/
  | unimplementedOpcode (op : Byte)
deriving DecidableEq, Repr

/-- Why an instruction is given no meaning. -/
inductive Refusal where
  /-- Raised by an arm of `exec` that has no meaning yet; safe. No arm of this model raises it. -/
  | notModelled (mnemonic : String)
deriving DecidableEq, Repr

/-- What one step answers. -/
abbrev Result := Host.Outcome State Fault Refusal

/-- R19: the flags after reset. -/
def Flags.clear : Flags :=
  { c := false, z := false, i := false, d := false, b := false, v := false, n := false }

/-- R32, R250: the state after construction, and after every reset, under the configuration inputs
`cfg`: registers and flags zero, SP = 0xFF, PC = `initial_pc`, every memory cell 0x00. No vector is
read. -/
def State.powerOn (cfg : Config) : State :=
  { a := 0x00#8, x := 0x00#8, y := 0x00#8, sp := resetSp, pc := cfg.initialPc
    flags := Flags.clear, mem := [], config := cfg }

/-- The machine right after reset with both configuration inputs at the defaults R5 gives. -/
def State.reset : State := State.powerOn {}

end Sys2Proof.Machine
end

