-- ==== Sys2Proof/Machine/Ops.lean ====
section
/-! DEFINITION. The named operations over registers and memory: the memory port and word read
(spec/20_memory.md R40 to R44), the stack (R50 to R52), the packed status (spec/10_state.md R22,
R23), and taking the BRK trap and returning from it (spec/46_stack_flags_system.md R202, R203). -/

namespace Sys2Proof.Machine

/-! ## Widening (spec/00_scope.md R7) -/

/-- `zext_16`: the byte as an unsigned 16-bit value. -/
def zext16 (b : Byte) : Addr := b.setWidth 16

/-- `sext_16`: the byte read as signed, as a 16-bit value. -/
def sext16 (b : Byte) : Addr := b.signExtend 16

/-! ## Register writes (R10, R12, R16: a value is masked to the register's width by its type) -/

/-- Write the accumulator. -/
def State.setA (s : State) (v : Byte) : State := { s with a := v }

/-- Write index register X. -/
def State.setX (s : State) (v : Byte) : State := { s with x := v }

/-- Write index register Y. -/
def State.setY (s : State) (v : Byte) : State := { s with y := v }

/-- Write the stack index. -/
def State.setSp (s : State) (v : Byte) : State := { s with sp := v }

/-- Write the program counter. -/
def State.setPc (s : State) (v : Addr) : State := { s with pc := v }

/-- Write the seven flags. -/
def State.setFlags (s : State) (f : Flags) : State := { s with flags := f }

/-- Replace the memory. -/
def State.setMem (s : State) (m : Memory) : State := { s with mem := m }

/-! ## Memory (R42 to R44) -/

/-- The byte at an address of a memory (R42). -/
def Memory.read : Memory → Nat → Byte
  | [], _ => unwrittenByte
  | cell :: rest, addr => if cell.1 = addr then cell.2 else Memory.read rest addr

/-- A memory without its entries for an address. -/
def Memory.erase : Memory → Nat → Memory
  | [], _ => []
  | cell :: rest, addr =>
    if cell.1 = addr then Memory.erase rest addr else cell :: Memory.erase rest addr

/-- A memory with an entry put in before the first entry of a higher address. -/
def Memory.insert : Memory → Nat → Byte → Memory
  | [], addr, v => [(addr, v)]
  | cell :: rest, addr, v =>
    if addr < cell.1 then (addr, v) :: cell :: rest else cell :: Memory.insert rest addr v

/-- A memory with the byte at an address replaced (R43). Writing what an unlisted address reads as
removes the entry, so the canonical form is kept. -/
def Memory.write (m : Memory) (addr : Nat) (v : Byte) : Memory :=
  if v = unwrittenByte then m.erase addr else (m.erase addr).insert addr v

/-- R42: `MemRead(addr, 1)`. -/
def readByte (s : State) (addr : Addr) : Byte := s.mem.read addr.toNat

/-- R43: `MemWrite(addr, 1, v)`. -/
def writeByte (s : State) (addr : Addr) (v : Byte) : State := s.setMem (s.mem.write addr.toNat v)

/-- R44: `MemRead(addr, 2)`: the low byte at `addr`, the high byte at `addr + 1` modulo 65536. -/
def readWord (s : State) (addr : Addr) : Addr :=
  joinBytes (readByte s (addr + 1#16)) (readByte s addr)

/-! ## The stack (R50 to R52) -/

/-- The cell a stack index names: 0x0100 + SP. -/
def stackAddr (sp : Byte) : Addr := stackBase + zext16 sp

/-- R50: `Push(b)`: write at SP, then decrement SP modulo 256. -/
def push (b : Byte) (s : State) : State :=
  (writeByte s (stackAddr s.sp) b).setSp (s.sp - 1#8)

/-- R51: `Pop()`: increment SP modulo 256, then read at SP. -/
def pop (s : State) : Byte × State :=
  (readByte s (stackAddr (s.sp + 1#8)), s.setSp (s.sp + 1#8))

/-- R52: push a return address, high byte then low byte. -/
def pushWord (w : Addr) (s : State) : State := push (loByte w) (push (hiByte w) s)

/-- R52: pop a return address, low byte then high byte. -/
def popWord (s : State) : Addr × State :=
  let lo := pop s
  let hi := pop lo.2
  (joinBytes hi.1 lo.1, hi.2)

/-! ## The packed status (R22, R23) -/

/-- One bit as the bit of a byte at a position. -/
def statusBit (v : Bool) (position : Nat) : Byte := if v then 1#8 <<< position else 0x00#8

/-- R22: `Encode()`: bits 5 and 4 are constant 1, and the B flag is not read. -/
def encodeStatus (f : Flags) : Byte :=
  statusBit f.n 7 ||| statusBit f.v 6 ||| 0x30#8 ||| statusBit f.d 3 ||| statusBit f.i 2
    ||| statusBit f.z 1 ||| statusBit f.c 0

/-- R23: `Decode(b)`: B from bit 4, bit 5 ignored. -/
def decodeStatus (p : Byte) : Flags :=
  { c := p.getLsbD 0, z := p.getLsbD 1, i := p.getLsbD 2, d := p.getLsbD 3, b := p.getLsbD 4
    v := p.getLsbD 6, n := p.getLsbD 7 }

/-! ## The BRK trap (R202, R237) and its return (R203, R239) -/

/-- R202: take the BRK trap in a state whose PC is the address after the BRK opcode. The address
pushed is the BRK's address plus 2; the status is encoded before I is set (the spec's decision D4,
log 7). -/
def takeBreak (s : State) : State :=
  let pushed := push (encodeStatus s.flags) (pushWord (s.pc + 1#16) s)
  let flagged := pushed.setFlags { pushed.flags with b := true, i := true }
  flagged.setPc (readWord flagged brkVector)

/-- R203: pop the status into the flags, then pop the address low byte first; nothing is added to
it (the spec's decision D15, log 8). -/
def returnFromInterrupt (s : State) : State :=
  let status := pop s
  let target := popWord (status.2.setFlags (decodeStatus status.1))
  target.2.setPc target.1

end Sys2Proof.Machine
end

