-- ==== Sys2Proof/Machine/Flags.lean ====
section
/-! DEFINITION. The arithmetic and logic primitives (spec/41_alu_primitives.md). A primitive gets
the bytes it works on and the flags, and answers the result and the flags; so none can touch memory,
a register or PC, as the head of that file says. Arithmetic is on unbounded integers, narrowed
where the rule narrows. -/

namespace Sys2Proof.Machine

/-- R8: the value a flag setter stores: 1 unless the number is zero. -/
def flagOf (n : Nat) : Bool := n != 0

/-- `u8(v)` of a natural number (R7). -/
def u8 (n : Nat) : Byte := BitVec.ofNat 8 n

/-- `u8(v)` of an integer that may be negative: its two's-complement low byte (R7). -/
def u8Int (n : Int) : Byte := BitVec.ofInt 8 n

/-- A flag read as the integer 0 or 1 (41_alu_primitives.md, head). -/
def bitOf (v : Bool) : Nat := if v then 1 else 0

/-- R100: `SetZN(r)`. -/
def setZN (r : Byte) (f : Flags) : Flags := { f with z := r == 0x00#8, n := r.getLsbD 7 }

/-! ## Add and subtract with carry (R101 to R106) -/

/-- R102: `AdcBin(v)`. -/
def adcBin (a v : Byte) (f : Flags) : Byte × Flags :=
  let c := bitOf f.c
  let sum := a.toNat + v.toNat + c
  let carryIn7 := ((a &&& 0x7F#8).toNat + (v &&& 0x7F#8).toNat + c) >>> 7
  let r := u8 sum
  (r, setZN r { f with v := flagOf (carryIn7 ^^^ (sum >>> 8)), c := decide (sum > 255) })

/-- R104: `AdcDec(v)`, the function `DecAdc` of R6 (the spec's decision D6, log 9). -/
def adcDec (a v : Byte) (f : Flags) : Byte × Flags :=
  let c := bitOf f.c
  let v0 := ((a ^^^ v) &&& 0x80#8) == 0x00#8
  let low := (a &&& 0x0F#8).toNat + (v &&& 0x0F#8).toNat + c
  let lowCorrected := if low ≥ 0x0A then 0x10 ||| ((low + 0x06) &&& 0x0F) else low
  let t := lowCorrected + (a &&& 0xF0#8).toNat + (v &&& 0xF0#8).toNat
  if t ≥ 0xA0 then
    let r := u8 (t + 0x60)
    (r, setZN r { f with c := true, v := v0 && !decide (t ≥ 0x180) })
  else
    let r := u8 t
    (r, setZN r { f with c := false, v := v0 && !decide (t < 0x80) })

/-- R101: `Adc(v)`: binary if D = 0, decimal if D = 1. -/
def adc (a v : Byte) (f : Flags) : Byte × Flags := if f.d then adcDec a v f else adcBin a v f

/-- R106: `SbcDec(v)`, the function `DecSbc` of R6 (the spec's decision D6, log 9). -/
def sbcDec (a v : Byte) (f : Flags) : Byte × Flags :=
  let c : Int := bitOf f.c
  let v0 := ((a ^^^ v) &&& 0x80#8) != 0x00#8
  let low : Int := 0x0F + (a &&& 0x0F#8).toNat - (v &&& 0x0F#8).toNat + c
  let t : Int := if low < 0x10 then low - 0x06 else low - 0x10
  let w0 : Int := if low < 0x10 then 0x00 else 0x10
  let w : Int := w0 + 0xF0 + (a &&& 0xF0#8).toNat - (v &&& 0xF0#8).toNat
  if w < 0x100 then
    let r := u8Int (w - 0x60 + t)
    (r, setZN r { f with c := false, v := v0 && !decide (w < 0x80) })
  else
    let r := u8Int (w + t)
    (r, setZN r { f with c := true, v := v0 && !decide (w ≥ 0x180) })

/-- R105: `Sbc(v)`: `AdcBin(v ^ 0xFF)` if D = 0, `SbcDec(v)` if D = 1. -/
def sbc (a v : Byte) (f : Flags) : Byte × Flags :=
  if f.d then sbcDec a v f else adcBin a (v ^^^ 0xFF#8) f

/-! ## Compare and bit test (R107, R114) -/

/-- R107: `Compare(reg, v)`. -/
def compareReg (reg v : Byte) (f : Flags) : Flags :=
  setZN (reg - v) { f with c := decide (reg.toNat ≥ v.toNat) }

/-- R114: `Bit(v)`: N and V come from the operand, Z from the AND. -/
def bitTest (a v : Byte) (f : Flags) : Flags :=
  { f with z := (a &&& v) == 0x00#8, v := v.getLsbD 6, n := v.getLsbD 7 }

/-! ## Shifts and rotates (R108 to R111) -/

/-- R108: `Asl(v)`. -/
def asl (v : Byte) (f : Flags) : Byte × Flags :=
  let r := v <<< 1
  (r, setZN r { f with c := v.getLsbD 7 })

/-- R109: `Lsr(v)`. -/
def lsr (v : Byte) (f : Flags) : Byte × Flags :=
  let r := v >>> 1
  (r, setZN r { f with c := v.getLsbD 0 })

/-- R110: `Rol(v)`: the carry-in is read before C is written. -/
def rol (v : Byte) (f : Flags) : Byte × Flags :=
  let r := (v <<< 1) ||| u8 (bitOf f.c)
  (r, setZN r { f with c := v.getLsbD 7 })

/-- R111: `Ror(v)`: the carry-in is read before C is written. -/
def ror (v : Byte) (f : Flags) : Byte × Flags :=
  let r := (v >>> 1) ||| u8 (bitOf f.c <<< 7)
  (r, setZN r { f with c := v.getLsbD 0 })

/-! ## Increment and decrement (R112, R113) -/

/-- R112: `Inc(v)`. -/
def inc (v : Byte) (f : Flags) : Byte × Flags := (v + 1#8, setZN (v + 1#8) f)

/-- R113: `Dec(v)`. -/
def dec (v : Byte) (f : Flags) : Byte × Flags := (v - 1#8, setZN (v - 1#8) f)

/-! ## Logic (R116) -/

/-- R116: `And(v)`. -/
def andA (a v : Byte) (f : Flags) : Byte × Flags := (a &&& v, setZN (a &&& v) f)

/-- R116: `Ora(v)`. -/
def oraA (a v : Byte) (f : Flags) : Byte × Flags := (a ||| v, setZN (a ||| v) f)

/-- R116: `Eor(v)`. -/
def eorA (a v : Byte) (f : Flags) : Byte × Flags := (a ^^^ v, setZN (a ^^^ v) f)

end Sys2Proof.Machine
end

