-- ==== Sys2Proof/Machine/Operands.lean ====
section
/-! DEFINITION. The addressing-mode resolver (spec/40_addressing.md). The operand bytes of an
instruction are in its syntax, since every one of them is fetched before any other access of the
instruction (R93), so `EA(mode)` and `Operand(mode)` are functions of the operand and the state. -/

namespace Sys2Proof.Machine

/-- R90, R91: the word a zero-page pointer holds. The high byte is read at pointer + 1 with no
zero-page wrap (`ZP_PTR_WRAP` = false, the spec's decision D2, log 5). -/
def readZeroPagePointer (s : State) (p : Byte) : Addr := readWord s (zext16 p)

/-- R89: the word JMP (indirect) jumps to. The high byte is read at pointer + 1 with no page wrap
(`JMP_IND_BUG` = false, the spec's decision D18, log 5). -/
def readJumpPointer (s : State) (ptr : Addr) : Addr := readWord s ptr

/-- `EA(mode)`: the effective address of a memory mode (R85 to R88, R90, R91). -/
def ea (m : MemMode) (s : State) : Addr :=
  match m with
  | .zp b => zext16 b
  | .zpX b => zext16 (b + s.x)
  | .zpY b => zext16 (b + s.y)
  | .abs w => w
  | .absX w => w + zext16 s.x
  | .absY w => w + zext16 s.y
  | .indX b => readZeroPagePointer s (b + s.x)
  | .indY b => readZeroPagePointer s b + zext16 s.y

/-- `Operand(mode)` for a memory mode: `MemRead(EA(mode), 1)`. -/
def memOperand (m : MemMode) (s : State) : Byte := readByte s (ea m s)

/-- R115: `BranchTarget(off)`, in a state whose PC is past the offset byte. -/
def branchTarget (off : Byte) (s : State) : Addr := s.pc + sext16 off

end Sys2Proof.Machine
end

