-- ==== Sys2Proof/Machine/Patterns.lean ====
section
/-! DEFINITION. The patterns the instruction rules share: an accumulator operation, the
read-modify-write of a memory cell or of A (spec/44_shift_rotate.md, head), the illegal combination
(spec/47_illegal.md R223), the conditional branch (spec/45_branch_jump.md R170). -/

namespace Sys2Proof.Machine

/-- A primitive that works on a byte and the flags (R108 to R113). -/
abbrev Unary := Byte → Flags → Byte × Flags

/-- A primitive that works on A, a byte and the flags (R101, R105, R116). -/
abbrev Binary := Byte → Byte → Flags → Byte × Flags

/-- `A <- f(A, v)`, with the flags the primitive writes. -/
def accOp (f : Binary) (v : Byte) (s : State) : State :=
  let r := f s.a v s.flags
  (s.setA r.1).setFlags r.2

/-- `A <- f(A)`: the accumulator form of `ShiftOp`. -/
def rmwAcc (f : Unary) (s : State) : State :=
  let r := f s.a s.flags
  (s.setA r.1).setFlags r.2

/-- One read of the cell at `EA(mode)`, then one write of it: the memory form of `ShiftOp`, and INC
and DEC. -/
def rmwMem (f : Unary) (m : MemMode) (s : State) : State :=
  let r := f (memOperand m s) s.flags
  (writeByte s (ea m s) r.1).setFlags r.2

/-- R223: the memory primitive writes its result back, then the accumulator primitive folds that
result into A, with the flags the memory primitive left. -/
def comboMem (f : Unary) (fold : Binary) (m : MemMode) (s : State) : State :=
  accOp fold (f (memOperand m s) s.flags).1 (rmwMem f m s)

/-- R170: a conditional branch, in a state whose PC is past the offset byte. -/
def branchIf (cond : Bool) (off : Byte) (s : State) : State :=
  if cond then s.setPc (branchTarget off s) else s

end Sys2Proof.Machine
end

