-- ==== Sys2Proof/Machine/Arith.lean ====
section
/-! DEFINITION. Arithmetic, logic, compare, bit test, increment and decrement
(spec/43_arith_logic.md R140 to R154). -/

namespace Sys2Proof.Machine

/-- R145 to R147: `Compare(reg, v)`; no register is written. -/
def cmpReg (reg v : Byte) (s : State) : State := s.setFlags (compareReg reg v s.flags)

/-- R148: `Bit(v)`; A is not written. -/
def bitMem (v : Byte) (s : State) : State := s.setFlags (bitTest s.a v s.flags)

/-- R140, 69: ADC immediate. -/
def execAdcImm (b : Byte) (s : State) : Result := .next (accOp adc b s)

/-- R140, 65: ADC zero page. -/
def execAdcZp (b : Byte) (s : State) : Result := .next (accOp adc (memOperand (.zp b) s) s)

/-- R140, 75: ADC zero page,X. -/
def execAdcZpX (b : Byte) (s : State) : Result := .next (accOp adc (memOperand (.zpX b) s) s)

/-- R140, 6D: ADC absolute. -/
def execAdcAbs (w : Addr) (s : State) : Result := .next (accOp adc (memOperand (.abs w) s) s)

/-- R140, 7D: ADC absolute,X. -/
def execAdcAbsX (w : Addr) (s : State) : Result := .next (accOp adc (memOperand (.absX w) s) s)

/-- R140, 79: ADC absolute,Y. -/
def execAdcAbsY (w : Addr) (s : State) : Result := .next (accOp adc (memOperand (.absY w) s) s)

/-- R140, 61: ADC (zp,X). -/
def execAdcIndX (b : Byte) (s : State) : Result := .next (accOp adc (memOperand (.indX b) s) s)

/-- R140, 71: ADC (zp),Y. -/
def execAdcIndY (b : Byte) (s : State) : Result := .next (accOp adc (memOperand (.indY b) s) s)

/-- R141, E9: SBC immediate. -/
def execSbcImm (b : Byte) (s : State) : Result := .next (accOp sbc b s)

/-- R141, E5: SBC zero page. -/
def execSbcZp (b : Byte) (s : State) : Result := .next (accOp sbc (memOperand (.zp b) s) s)

/-- R141, F5: SBC zero page,X. -/
def execSbcZpX (b : Byte) (s : State) : Result := .next (accOp sbc (memOperand (.zpX b) s) s)

/-- R141, ED: SBC absolute. -/
def execSbcAbs (w : Addr) (s : State) : Result := .next (accOp sbc (memOperand (.abs w) s) s)

/-- R141, FD: SBC absolute,X. -/
def execSbcAbsX (w : Addr) (s : State) : Result := .next (accOp sbc (memOperand (.absX w) s) s)

/-- R141, F9: SBC absolute,Y. -/
def execSbcAbsY (w : Addr) (s : State) : Result := .next (accOp sbc (memOperand (.absY w) s) s)

/-- R141, E1: SBC (zp,X). -/
def execSbcIndX (b : Byte) (s : State) : Result := .next (accOp sbc (memOperand (.indX b) s) s)

/-- R141, F1: SBC (zp),Y. -/
def execSbcIndY (b : Byte) (s : State) : Result := .next (accOp sbc (memOperand (.indY b) s) s)

/-- R142, 29: AND immediate. -/
def execAndImm (b : Byte) (s : State) : Result := .next (accOp andA b s)

/-- R142, 25: AND zero page. -/
def execAndZp (b : Byte) (s : State) : Result := .next (accOp andA (memOperand (.zp b) s) s)

/-- R142, 35: AND zero page,X. -/
def execAndZpX (b : Byte) (s : State) : Result := .next (accOp andA (memOperand (.zpX b) s) s)

/-- R142, 2D: AND absolute. -/
def execAndAbs (w : Addr) (s : State) : Result := .next (accOp andA (memOperand (.abs w) s) s)

/-- R142, 3D: AND absolute,X. -/
def execAndAbsX (w : Addr) (s : State) : Result := .next (accOp andA (memOperand (.absX w) s) s)

/-- R142, 39: AND absolute,Y. -/
def execAndAbsY (w : Addr) (s : State) : Result := .next (accOp andA (memOperand (.absY w) s) s)

/-- R142, 21: AND (zp,X). -/
def execAndIndX (b : Byte) (s : State) : Result := .next (accOp andA (memOperand (.indX b) s) s)

/-- R142, 31: AND (zp),Y. -/
def execAndIndY (b : Byte) (s : State) : Result := .next (accOp andA (memOperand (.indY b) s) s)

/-- R143, 09: ORA immediate. -/
def execOraImm (b : Byte) (s : State) : Result := .next (accOp oraA b s)

/-- R143, 05: ORA zero page. -/
def execOraZp (b : Byte) (s : State) : Result := .next (accOp oraA (memOperand (.zp b) s) s)

/-- R143, 15: ORA zero page,X. -/
def execOraZpX (b : Byte) (s : State) : Result := .next (accOp oraA (memOperand (.zpX b) s) s)

/-- R143, 0D: ORA absolute. -/
def execOraAbs (w : Addr) (s : State) : Result := .next (accOp oraA (memOperand (.abs w) s) s)

/-- R143, 1D: ORA absolute,X. -/
def execOraAbsX (w : Addr) (s : State) : Result := .next (accOp oraA (memOperand (.absX w) s) s)

/-- R143, 19: ORA absolute,Y. -/
def execOraAbsY (w : Addr) (s : State) : Result := .next (accOp oraA (memOperand (.absY w) s) s)

/-- R143, 01: ORA (zp,X). -/
def execOraIndX (b : Byte) (s : State) : Result := .next (accOp oraA (memOperand (.indX b) s) s)

/-- R143, 11: ORA (zp),Y. -/
def execOraIndY (b : Byte) (s : State) : Result := .next (accOp oraA (memOperand (.indY b) s) s)

/-- R144, 49: EOR immediate. -/
def execEorImm (b : Byte) (s : State) : Result := .next (accOp eorA b s)

/-- R144, 45: EOR zero page. -/
def execEorZp (b : Byte) (s : State) : Result := .next (accOp eorA (memOperand (.zp b) s) s)

/-- R144, 55: EOR zero page,X. -/
def execEorZpX (b : Byte) (s : State) : Result := .next (accOp eorA (memOperand (.zpX b) s) s)

/-- R144, 4D: EOR absolute. -/
def execEorAbs (w : Addr) (s : State) : Result := .next (accOp eorA (memOperand (.abs w) s) s)

/-- R144, 5D: EOR absolute,X. -/
def execEorAbsX (w : Addr) (s : State) : Result := .next (accOp eorA (memOperand (.absX w) s) s)

/-- R144, 59: EOR absolute,Y. -/
def execEorAbsY (w : Addr) (s : State) : Result := .next (accOp eorA (memOperand (.absY w) s) s)

/-- R144, 41: EOR (zp,X). -/
def execEorIndX (b : Byte) (s : State) : Result := .next (accOp eorA (memOperand (.indX b) s) s)

/-- R144, 51: EOR (zp),Y. -/
def execEorIndY (b : Byte) (s : State) : Result := .next (accOp eorA (memOperand (.indY b) s) s)

/-- R145, C9: CMP immediate. -/
def execCmpImm (b : Byte) (s : State) : Result := .next (cmpReg s.a b s)

/-- R145, C5: CMP zero page. -/
def execCmpZp (b : Byte) (s : State) : Result := .next (cmpReg s.a (memOperand (.zp b) s) s)

/-- R145, D5: CMP zero page,X. -/
def execCmpZpX (b : Byte) (s : State) : Result := .next (cmpReg s.a (memOperand (.zpX b) s) s)

/-- R145, CD: CMP absolute. -/
def execCmpAbs (w : Addr) (s : State) : Result := .next (cmpReg s.a (memOperand (.abs w) s) s)

/-- R145, DD: CMP absolute,X. -/
def execCmpAbsX (w : Addr) (s : State) : Result := .next (cmpReg s.a (memOperand (.absX w) s) s)

/-- R145, D9: CMP absolute,Y. -/
def execCmpAbsY (w : Addr) (s : State) : Result := .next (cmpReg s.a (memOperand (.absY w) s) s)

/-- R145, C1: CMP (zp,X). -/
def execCmpIndX (b : Byte) (s : State) : Result := .next (cmpReg s.a (memOperand (.indX b) s) s)

/-- R145, D1: CMP (zp),Y. -/
def execCmpIndY (b : Byte) (s : State) : Result := .next (cmpReg s.a (memOperand (.indY b) s) s)

/-- R146, E0: CPX immediate. -/
def execCpxImm (b : Byte) (s : State) : Result := .next (cmpReg s.x b s)

/-- R146, E4: CPX zero page. -/
def execCpxZp (b : Byte) (s : State) : Result := .next (cmpReg s.x (memOperand (.zp b) s) s)

/-- R146, EC: CPX absolute. -/
def execCpxAbs (w : Addr) (s : State) : Result := .next (cmpReg s.x (memOperand (.abs w) s) s)

/-- R147, C0: CPY immediate. -/
def execCpyImm (b : Byte) (s : State) : Result := .next (cmpReg s.y b s)

/-- R147, C4: CPY zero page. -/
def execCpyZp (b : Byte) (s : State) : Result := .next (cmpReg s.y (memOperand (.zp b) s) s)

/-- R147, CC: CPY absolute. -/
def execCpyAbs (w : Addr) (s : State) : Result := .next (cmpReg s.y (memOperand (.abs w) s) s)

/-- R148, 24: BIT zero page. -/
def execBitZp (b : Byte) (s : State) : Result := .next (bitMem (memOperand (.zp b) s) s)

/-- R148, 2C: BIT absolute. -/
def execBitAbs (w : Addr) (s : State) : Result := .next (bitMem (memOperand (.abs w) s) s)

/-- R149, E6: INC zero page. -/
def execIncZp (b : Byte) (s : State) : Result := .next (rmwMem inc (.zp b) s)

/-- R149, F6: INC zero page,X. -/
def execIncZpX (b : Byte) (s : State) : Result := .next (rmwMem inc (.zpX b) s)

/-- R149, EE: INC absolute. -/
def execIncAbs (w : Addr) (s : State) : Result := .next (rmwMem inc (.abs w) s)

/-- R149, FE: INC absolute,X. -/
def execIncAbsX (w : Addr) (s : State) : Result := .next (rmwMem inc (.absX w) s)

/-- R150, C6: DEC zero page. -/
def execDecZp (b : Byte) (s : State) : Result := .next (rmwMem dec (.zp b) s)

/-- R150, D6: DEC zero page,X. -/
def execDecZpX (b : Byte) (s : State) : Result := .next (rmwMem dec (.zpX b) s)

/-- R150, CE: DEC absolute. -/
def execDecAbs (w : Addr) (s : State) : Result := .next (rmwMem dec (.abs w) s)

/-- R150, DE: DEC absolute,X. -/
def execDecAbsX (w : Addr) (s : State) : Result := .next (rmwMem dec (.absX w) s)

/-- R151, E8: INX. -/
def execInx (s : State) : Result :=
  .next ((s.setX (inc s.x s.flags).1).setFlags (inc s.x s.flags).2)

/-- R152, C8: INY. -/
def execIny (s : State) : Result :=
  .next ((s.setY (inc s.y s.flags).1).setFlags (inc s.y s.flags).2)

/-- R153, CA: DEX. -/
def execDex (s : State) : Result :=
  .next ((s.setX (dec s.x s.flags).1).setFlags (dec s.x s.flags).2)

/-- R154, 88: DEY. -/
def execDey (s : State) : Result :=
  .next ((s.setY (dec s.y s.flags).1).setFlags (dec s.y s.flags).2)

end Sys2Proof.Machine
end

