-- ==== Sys2Proof/Machine/Branch.lean ====
section
/-! DEFINITION. Branches, jumps, subroutine call and return (spec/45_branch_jump.md R170 to
R181). On entry PC is past the instruction's operand bytes. -/

namespace Sys2Proof.Machine

/-- R171, 90: BCC. -/
def execBcc (b : Byte) (s : State) : Result := .next (branchIf (!s.flags.c) b s)

/-- R172, B0: BCS. -/
def execBcs (b : Byte) (s : State) : Result := .next (branchIf s.flags.c b s)

/-- R173, F0: BEQ. -/
def execBeq (b : Byte) (s : State) : Result := .next (branchIf s.flags.z b s)

/-- R174, D0: BNE. -/
def execBne (b : Byte) (s : State) : Result := .next (branchIf (!s.flags.z) b s)

/-- R175, 30: BMI. -/
def execBmi (b : Byte) (s : State) : Result := .next (branchIf s.flags.n b s)

/-- R176, 10: BPL. -/
def execBpl (b : Byte) (s : State) : Result := .next (branchIf (!s.flags.n) b s)

/-- R177, 50: BVC. -/
def execBvc (b : Byte) (s : State) : Result := .next (branchIf (!s.flags.v) b s)

/-- R178, 70: BVS. -/
def execBvs (b : Byte) (s : State) : Result := .next (branchIf s.flags.v b s)

/-- R179, 4C: JMP absolute. -/
def execJmpAbs (w : Addr) (s : State) : Result := .next (s.setPc w)

/-- R179, 6C: JMP (indirect). -/
def execJmpInd (w : Addr) (s : State) : Result := .next (s.setPc (readJumpPointer s w))

/-- R180, 20: JSR absolute. It pushes the address of its own last byte (log 8). -/
def execJsr (w : Addr) (s : State) : Result := .next ((pushWord (s.pc - 1#16) s).setPc w)

/-- R181, 60: RTS. PC gets the popped word plus 1. -/
def execRts (s : State) : Result := .next ((popWord s).2.setPc ((popWord s).1 + 1#16))

end Sys2Proof.Machine
end

