-- ==== Sys2Proof/Machine/LoadStore.lean ====
section
/-! DEFINITION. Loads, stores and register transfers (spec/42_load_store_transfer.md R120 to R131). -/

namespace Sys2Proof.Machine

/-- R120: `A <- v; SetZN(A)`. -/
def lda (v : Byte) (s : State) : State := (s.setA v).setFlags (setZN v s.flags)

/-- R121: `X <- v; SetZN(X)`. -/
def ldx (v : Byte) (s : State) : State := (s.setX v).setFlags (setZN v s.flags)

/-- R122: `Y <- v; SetZN(Y)`. -/
def ldy (v : Byte) (s : State) : State := (s.setY v).setFlags (setZN v s.flags)

/-- R123 to R125, R211: `MemWrite(EA(mode), 1, v)`; the cell is not read and no flag is written. -/
def store (m : MemMode) (v : Byte) (s : State) : State := writeByte s (ea m s) v

/-- R120, A9: LDA immediate. -/
def execLdaImm (b : Byte) (s : State) : Result := .next (lda b s)

/-- R120, A5: LDA zero page. -/
def execLdaZp (b : Byte) (s : State) : Result := .next (lda (memOperand (.zp b) s) s)

/-- R120, B5: LDA zero page,X. -/
def execLdaZpX (b : Byte) (s : State) : Result := .next (lda (memOperand (.zpX b) s) s)

/-- R120, AD: LDA absolute. -/
def execLdaAbs (w : Addr) (s : State) : Result := .next (lda (memOperand (.abs w) s) s)

/-- R120, BD: LDA absolute,X. -/
def execLdaAbsX (w : Addr) (s : State) : Result := .next (lda (memOperand (.absX w) s) s)

/-- R120, B9: LDA absolute,Y. -/
def execLdaAbsY (w : Addr) (s : State) : Result := .next (lda (memOperand (.absY w) s) s)

/-- R120, A1: LDA (zp,X). -/
def execLdaIndX (b : Byte) (s : State) : Result := .next (lda (memOperand (.indX b) s) s)

/-- R120, B1: LDA (zp),Y. -/
def execLdaIndY (b : Byte) (s : State) : Result := .next (lda (memOperand (.indY b) s) s)

/-- R121, A2: LDX immediate. -/
def execLdxImm (b : Byte) (s : State) : Result := .next (ldx b s)

/-- R121, A6: LDX zero page. -/
def execLdxZp (b : Byte) (s : State) : Result := .next (ldx (memOperand (.zp b) s) s)

/-- R121, B6: LDX zero page,Y. -/
def execLdxZpY (b : Byte) (s : State) : Result := .next (ldx (memOperand (.zpY b) s) s)

/-- R121, AE: LDX absolute. -/
def execLdxAbs (w : Addr) (s : State) : Result := .next (ldx (memOperand (.abs w) s) s)

/-- R121, BE: LDX absolute,Y. -/
def execLdxAbsY (w : Addr) (s : State) : Result := .next (ldx (memOperand (.absY w) s) s)

/-- R122, A0: LDY immediate. -/
def execLdyImm (b : Byte) (s : State) : Result := .next (ldy b s)

/-- R122, A4: LDY zero page. -/
def execLdyZp (b : Byte) (s : State) : Result := .next (ldy (memOperand (.zp b) s) s)

/-- R122, B4: LDY zero page,X. -/
def execLdyZpX (b : Byte) (s : State) : Result := .next (ldy (memOperand (.zpX b) s) s)

/-- R122, AC: LDY absolute. -/
def execLdyAbs (w : Addr) (s : State) : Result := .next (ldy (memOperand (.abs w) s) s)

/-- R122, BC: LDY absolute,X. -/
def execLdyAbsX (w : Addr) (s : State) : Result := .next (ldy (memOperand (.absX w) s) s)

/-- R123, 85: STA zero page. -/
def execStaZp (b : Byte) (s : State) : Result := .next (store (.zp b) s.a s)

/-- R123, 95: STA zero page,X. -/
def execStaZpX (b : Byte) (s : State) : Result := .next (store (.zpX b) s.a s)

/-- R123, 8D: STA absolute. -/
def execStaAbs (w : Addr) (s : State) : Result := .next (store (.abs w) s.a s)

/-- R123, 9D: STA absolute,X. -/
def execStaAbsX (w : Addr) (s : State) : Result := .next (store (.absX w) s.a s)

/-- R123, 99: STA absolute,Y. -/
def execStaAbsY (w : Addr) (s : State) : Result := .next (store (.absY w) s.a s)

/-- R123, 81: STA (zp,X). -/
def execStaIndX (b : Byte) (s : State) : Result := .next (store (.indX b) s.a s)

/-- R123, 91: STA (zp),Y. -/
def execStaIndY (b : Byte) (s : State) : Result := .next (store (.indY b) s.a s)

/-- R124, 86: STX zero page. -/
def execStxZp (b : Byte) (s : State) : Result := .next (store (.zp b) s.x s)

/-- R124, 96: STX zero page,Y. -/
def execStxZpY (b : Byte) (s : State) : Result := .next (store (.zpY b) s.x s)

/-- R124, 8E: STX absolute. -/
def execStxAbs (w : Addr) (s : State) : Result := .next (store (.abs w) s.x s)

/-- R125, 84: STY zero page. -/
def execStyZp (b : Byte) (s : State) : Result := .next (store (.zp b) s.y s)

/-- R125, 94: STY zero page,X. -/
def execStyZpX (b : Byte) (s : State) : Result := .next (store (.zpX b) s.y s)

/-- R125, 8C: STY absolute. -/
def execStyAbs (w : Addr) (s : State) : Result := .next (store (.abs w) s.y s)

/-- R126, AA: TAX. -/
def execTax (s : State) : Result := .next (ldx s.a s)

/-- R127, A8: TAY. -/
def execTay (s : State) : Result := .next (ldy s.a s)

/-- R128, 8A: TXA. -/
def execTxa (s : State) : Result := .next (lda s.x s)

/-- R129, 98: TYA. -/
def execTya (s : State) : Result := .next (lda s.y s)

/-- R130, BA: TSX. -/
def execTsx (s : State) : Result := .next (ldx s.sp s)

/-- R131, 9A: TXS. -/
def execTxs (s : State) : Result := .next (s.setSp s.x)

end Sys2Proof.Machine
end

