-- ==== Sys2Proof/Machine/Illegal.lean ====
section
/-! DEFINITION. The undocumented instructions (spec/47_illegal.md R210 to R223). That they run
only when `allow_illegal_ops` = 1 is dispatch's matter (R64), not theirs. -/

namespace Sys2Proof.Machine

/-- R210: A and X get the same byte, whose zero and negative the flags get. -/
def lax (v : Byte) (s : State) : State := ((s.setA v).setX v).setFlags (setZN v s.flags)

/-- R216: the fold of DCP compares A with the new memory byte and leaves A alone. -/
def compareFold (a m : Byte) (f : Flags) : Byte × Flags := (a, compareReg a m f)

/-- R220, R221: read the cell at `EA(mode)` and discard the value. -/
def discardRead (m : MemMode) (s : State) : State :=
  let _ := memOperand m s
  s

/-- R210, A7: LAX zero page. -/
def execLaxZp (b : Byte) (s : State) : Result := .next (lax (memOperand (.zp b) s) s)

/-- R210, B7: LAX zero page,Y. -/
def execLaxZpY (b : Byte) (s : State) : Result := .next (lax (memOperand (.zpY b) s) s)

/-- R210, AF: LAX absolute. -/
def execLaxAbs (w : Addr) (s : State) : Result := .next (lax (memOperand (.abs w) s) s)

/-- R210, BF: LAX absolute,Y. -/
def execLaxAbsY (w : Addr) (s : State) : Result := .next (lax (memOperand (.absY w) s) s)

/-- R210, A3: LAX (zp,X). -/
def execLaxIndX (b : Byte) (s : State) : Result := .next (lax (memOperand (.indX b) s) s)

/-- R210, B3: LAX (zp),Y. -/
def execLaxIndY (b : Byte) (s : State) : Result := .next (lax (memOperand (.indY b) s) s)

/-- R211, 87: SAX zero page. -/
def execSaxZp (b : Byte) (s : State) : Result := .next (store (.zp b) (s.a &&& s.x) s)

/-- R211, 97: SAX zero page,Y. -/
def execSaxZpY (b : Byte) (s : State) : Result := .next (store (.zpY b) (s.a &&& s.x) s)

/-- R211, 8F: SAX absolute. -/
def execSaxAbs (w : Addr) (s : State) : Result := .next (store (.abs w) (s.a &&& s.x) s)

/-- R211, 83: SAX (zp,X). -/
def execSaxIndX (b : Byte) (s : State) : Result := .next (store (.indX b) (s.a &&& s.x) s)

/-- R212, 07: SLO zero page. -/
def execSloZp (b : Byte) (s : State) : Result := .next (comboMem asl oraA (.zp b) s)

/-- R212, 17: SLO zero page,X. -/
def execSloZpX (b : Byte) (s : State) : Result := .next (comboMem asl oraA (.zpX b) s)

/-- R212, 0F: SLO absolute. -/
def execSloAbs (w : Addr) (s : State) : Result := .next (comboMem asl oraA (.abs w) s)

/-- R212, 1F: SLO absolute,X. -/
def execSloAbsX (w : Addr) (s : State) : Result := .next (comboMem asl oraA (.absX w) s)

/-- R212, 1B: SLO absolute,Y. -/
def execSloAbsY (w : Addr) (s : State) : Result := .next (comboMem asl oraA (.absY w) s)

/-- R212, 03: SLO (zp,X). -/
def execSloIndX (b : Byte) (s : State) : Result := .next (comboMem asl oraA (.indX b) s)

/-- R212, 13: SLO (zp),Y. -/
def execSloIndY (b : Byte) (s : State) : Result := .next (comboMem asl oraA (.indY b) s)

/-- R213, 27: RLA zero page. -/
def execRlaZp (b : Byte) (s : State) : Result := .next (comboMem rol andA (.zp b) s)

/-- R213, 37: RLA zero page,X. -/
def execRlaZpX (b : Byte) (s : State) : Result := .next (comboMem rol andA (.zpX b) s)

/-- R213, 2F: RLA absolute. -/
def execRlaAbs (w : Addr) (s : State) : Result := .next (comboMem rol andA (.abs w) s)

/-- R213, 3F: RLA absolute,X. -/
def execRlaAbsX (w : Addr) (s : State) : Result := .next (comboMem rol andA (.absX w) s)

/-- R213, 3B: RLA absolute,Y. -/
def execRlaAbsY (w : Addr) (s : State) : Result := .next (comboMem rol andA (.absY w) s)

/-- R213, 23: RLA (zp,X). -/
def execRlaIndX (b : Byte) (s : State) : Result := .next (comboMem rol andA (.indX b) s)

/-- R213, 33: RLA (zp),Y. -/
def execRlaIndY (b : Byte) (s : State) : Result := .next (comboMem rol andA (.indY b) s)

/-- R214, 47: SRE zero page. -/
def execSreZp (b : Byte) (s : State) : Result := .next (comboMem lsr eorA (.zp b) s)

/-- R214, 57: SRE zero page,X. -/
def execSreZpX (b : Byte) (s : State) : Result := .next (comboMem lsr eorA (.zpX b) s)

/-- R214, 4F: SRE absolute. -/
def execSreAbs (w : Addr) (s : State) : Result := .next (comboMem lsr eorA (.abs w) s)

/-- R214, 5F: SRE absolute,X. -/
def execSreAbsX (w : Addr) (s : State) : Result := .next (comboMem lsr eorA (.absX w) s)

/-- R214, 5B: SRE absolute,Y. -/
def execSreAbsY (w : Addr) (s : State) : Result := .next (comboMem lsr eorA (.absY w) s)

/-- R214, 43: SRE (zp,X). -/
def execSreIndX (b : Byte) (s : State) : Result := .next (comboMem lsr eorA (.indX b) s)

/-- R214, 53: SRE (zp),Y. -/
def execSreIndY (b : Byte) (s : State) : Result := .next (comboMem lsr eorA (.indY b) s)

/-- R215, 67: RRA zero page. -/
def execRraZp (b : Byte) (s : State) : Result := .next (comboMem ror adc (.zp b) s)

/-- R215, 77: RRA zero page,X. -/
def execRraZpX (b : Byte) (s : State) : Result := .next (comboMem ror adc (.zpX b) s)

/-- R215, 6F: RRA absolute. -/
def execRraAbs (w : Addr) (s : State) : Result := .next (comboMem ror adc (.abs w) s)

/-- R215, 7F: RRA absolute,X. -/
def execRraAbsX (w : Addr) (s : State) : Result := .next (comboMem ror adc (.absX w) s)

/-- R215, 7B: RRA absolute,Y. -/
def execRraAbsY (w : Addr) (s : State) : Result := .next (comboMem ror adc (.absY w) s)

/-- R215, 63: RRA (zp,X). -/
def execRraIndX (b : Byte) (s : State) : Result := .next (comboMem ror adc (.indX b) s)

/-- R215, 73: RRA (zp),Y. -/
def execRraIndY (b : Byte) (s : State) : Result := .next (comboMem ror adc (.indY b) s)

/-- R216, C7: DCP zero page. -/
def execDcpZp (b : Byte) (s : State) : Result := .next (comboMem dec compareFold (.zp b) s)

/-- R216, D7: DCP zero page,X. -/
def execDcpZpX (b : Byte) (s : State) : Result := .next (comboMem dec compareFold (.zpX b) s)

/-- R216, CF: DCP absolute. -/
def execDcpAbs (w : Addr) (s : State) : Result := .next (comboMem dec compareFold (.abs w) s)

/-- R216, DF: DCP absolute,X. -/
def execDcpAbsX (w : Addr) (s : State) : Result := .next (comboMem dec compareFold (.absX w) s)

/-- R216, DB: DCP absolute,Y. -/
def execDcpAbsY (w : Addr) (s : State) : Result := .next (comboMem dec compareFold (.absY w) s)

/-- R216, C3: DCP (zp,X). -/
def execDcpIndX (b : Byte) (s : State) : Result := .next (comboMem dec compareFold (.indX b) s)

/-- R216, D3: DCP (zp),Y. -/
def execDcpIndY (b : Byte) (s : State) : Result := .next (comboMem dec compareFold (.indY b) s)

/-- R217, E7: ISC zero page. -/
def execIscZp (b : Byte) (s : State) : Result := .next (comboMem inc sbc (.zp b) s)

/-- R217, F7: ISC zero page,X. -/
def execIscZpX (b : Byte) (s : State) : Result := .next (comboMem inc sbc (.zpX b) s)

/-- R217, EF: ISC absolute. -/
def execIscAbs (w : Addr) (s : State) : Result := .next (comboMem inc sbc (.abs w) s)

/-- R217, FF: ISC absolute,X. -/
def execIscAbsX (w : Addr) (s : State) : Result := .next (comboMem inc sbc (.absX w) s)

/-- R217, FB: ISC absolute,Y. -/
def execIscAbsY (w : Addr) (s : State) : Result := .next (comboMem inc sbc (.absY w) s)

/-- R217, E3: ISC (zp,X). -/
def execIscIndX (b : Byte) (s : State) : Result := .next (comboMem inc sbc (.indX b) s)

/-- R217, F3: ISC (zp),Y. -/
def execIscIndY (b : Byte) (s : State) : Result := .next (comboMem inc sbc (.indY b) s)

/-- R218, 1A: NOP. -/
def execNopImp1A (s : State) : Result := .next s

/-- R218, 3A: NOP. -/
def execNopImp3A (s : State) : Result := .next s

/-- R218, 5A: NOP. -/
def execNopImp5A (s : State) : Result := .next s

/-- R218, 7A: NOP. -/
def execNopImp7A (s : State) : Result := .next s

/-- R218, DA: NOP. -/
def execNopImpDA (s : State) : Result := .next s

/-- R218, FA: NOP. -/
def execNopImpFA (s : State) : Result := .next s

/-- R219, 80: NOP immediate. -/
def execNopImm80 (_b : Byte) (s : State) : Result := .next s

/-- R219, 82: NOP immediate. -/
def execNopImm82 (_b : Byte) (s : State) : Result := .next s

/-- R219, 89: NOP immediate. -/
def execNopImm89 (_b : Byte) (s : State) : Result := .next s

/-- R219, C2: NOP immediate. -/
def execNopImmC2 (_b : Byte) (s : State) : Result := .next s

/-- R219, E2: NOP immediate. -/
def execNopImmE2 (_b : Byte) (s : State) : Result := .next s

/-- R220, 04: NOP zero page. -/
def execNopZp04 (b : Byte) (s : State) : Result := .next (discardRead (.zp b) s)

/-- R220, 44: NOP zero page. -/
def execNopZp44 (b : Byte) (s : State) : Result := .next (discardRead (.zp b) s)

/-- R220, 64: NOP zero page. -/
def execNopZp64 (b : Byte) (s : State) : Result := .next (discardRead (.zp b) s)

/-- R220, 14: NOP zero page,X. -/
def execNopZpX14 (b : Byte) (s : State) : Result := .next (discardRead (.zpX b) s)

/-- R220, 34: NOP zero page,X. -/
def execNopZpX34 (b : Byte) (s : State) : Result := .next (discardRead (.zpX b) s)

/-- R220, 54: NOP zero page,X. -/
def execNopZpX54 (b : Byte) (s : State) : Result := .next (discardRead (.zpX b) s)

/-- R220, 74: NOP zero page,X. -/
def execNopZpX74 (b : Byte) (s : State) : Result := .next (discardRead (.zpX b) s)

/-- R220, D4: NOP zero page,X. -/
def execNopZpXD4 (b : Byte) (s : State) : Result := .next (discardRead (.zpX b) s)

/-- R220, F4: NOP zero page,X. -/
def execNopZpXF4 (b : Byte) (s : State) : Result := .next (discardRead (.zpX b) s)

/-- R221, 0C: NOP absolute. -/
def execNopAbs0C (w : Addr) (s : State) : Result := .next (discardRead (.abs w) s)

/-- R221, 1C: NOP absolute,X. -/
def execNopAbsX1C (w : Addr) (s : State) : Result := .next (discardRead (.absX w) s)

/-- R221, 3C: NOP absolute,X. -/
def execNopAbsX3C (w : Addr) (s : State) : Result := .next (discardRead (.absX w) s)

/-- R221, 5C: NOP absolute,X. -/
def execNopAbsX5C (w : Addr) (s : State) : Result := .next (discardRead (.absX w) s)

/-- R221, 7C: NOP absolute,X. -/
def execNopAbsX7C (w : Addr) (s : State) : Result := .next (discardRead (.absX w) s)

/-- R221, DC: NOP absolute,X. -/
def execNopAbsXDC (w : Addr) (s : State) : Result := .next (discardRead (.absX w) s)

/-- R221, FC: NOP absolute,X. -/
def execNopAbsXFC (w : Addr) (s : State) : Result := .next (discardRead (.absX w) s)

end Sys2Proof.Machine
end

