-- ==== Sys2Proof/Machine/Shift.lean ====
section
/-! DEFINITION. Shifts and rotates (spec/44_shift_rotate.md R160 to R163). -/

namespace Sys2Proof.Machine

/-- R160, 0A: ASL accumulator. -/
def execAslAcc (s : State) : Result := .next (rmwAcc asl s)

/-- R160, 06: ASL zero page. -/
def execAslZp (b : Byte) (s : State) : Result := .next (rmwMem asl (.zp b) s)

/-- R160, 16: ASL zero page,X. -/
def execAslZpX (b : Byte) (s : State) : Result := .next (rmwMem asl (.zpX b) s)

/-- R160, 0E: ASL absolute. -/
def execAslAbs (w : Addr) (s : State) : Result := .next (rmwMem asl (.abs w) s)

/-- R160, 1E: ASL absolute,X. -/
def execAslAbsX (w : Addr) (s : State) : Result := .next (rmwMem asl (.absX w) s)

/-- R161, 4A: LSR accumulator. -/
def execLsrAcc (s : State) : Result := .next (rmwAcc lsr s)

/-- R161, 46: LSR zero page. -/
def execLsrZp (b : Byte) (s : State) : Result := .next (rmwMem lsr (.zp b) s)

/-- R161, 56: LSR zero page,X. -/
def execLsrZpX (b : Byte) (s : State) : Result := .next (rmwMem lsr (.zpX b) s)

/-- R161, 4E: LSR absolute. -/
def execLsrAbs (w : Addr) (s : State) : Result := .next (rmwMem lsr (.abs w) s)

/-- R161, 5E: LSR absolute,X. -/
def execLsrAbsX (w : Addr) (s : State) : Result := .next (rmwMem lsr (.absX w) s)

/-- R162, 2A: ROL accumulator. -/
def execRolAcc (s : State) : Result := .next (rmwAcc rol s)

/-- R162, 26: ROL zero page. -/
def execRolZp (b : Byte) (s : State) : Result := .next (rmwMem rol (.zp b) s)

/-- R162, 36: ROL zero page,X. -/
def execRolZpX (b : Byte) (s : State) : Result := .next (rmwMem rol (.zpX b) s)

/-- R162, 2E: ROL absolute. -/
def execRolAbs (w : Addr) (s : State) : Result := .next (rmwMem rol (.abs w) s)

/-- R162, 3E: ROL absolute,X. -/
def execRolAbsX (w : Addr) (s : State) : Result := .next (rmwMem rol (.absX w) s)

/-- R163, 6A: ROR accumulator. -/
def execRorAcc (s : State) : Result := .next (rmwAcc ror s)

/-- R163, 66: ROR zero page. -/
def execRorZp (b : Byte) (s : State) : Result := .next (rmwMem ror (.zp b) s)

/-- R163, 76: ROR zero page,X. -/
def execRorZpX (b : Byte) (s : State) : Result := .next (rmwMem ror (.zpX b) s)

/-- R163, 6E: ROR absolute. -/
def execRorAbs (w : Addr) (s : State) : Result := .next (rmwMem ror (.abs w) s)

/-- R163, 7E: ROR absolute,X. -/
def execRorAbsX (w : Addr) (s : State) : Result := .next (rmwMem ror (.absX w) s)

end Sys2Proof.Machine
end

