-- ==== Sys2Proof/Machine/StackFlags.lean ====
section
/-! DEFINITION. Stack, flag and system instructions (spec/46_stack_flags_system.md R190 to
R203). On entry PC is past the opcode byte. -/

namespace Sys2Proof.Machine

/-- R190, 48: PHA. -/
def execPha (s : State) : Result := .next (push s.a s)

/-- R191, 68: PLA. -/
def execPla (s : State) : Result :=
  .next (((pop s).2.setA (pop s).1).setFlags (setZN (pop s).1 s.flags))

/-- R192, 08: PHP. -/
def execPhp (s : State) : Result := .next (push (encodeStatus s.flags) s)

/-- R193, 28: PLP. -/
def execPlp (s : State) : Result := .next ((pop s).2.setFlags (decodeStatus (pop s).1))

/-- R194, 18: CLC. -/
def execClc (s : State) : Result := .next (s.setFlags { s.flags with c := false })

/-- R195, 38: SEC. -/
def execSec (s : State) : Result := .next (s.setFlags { s.flags with c := true })

/-- R196, 58: CLI. -/
def execCli (s : State) : Result := .next (s.setFlags { s.flags with i := false })

/-- R197, 78: SEI. -/
def execSei (s : State) : Result := .next (s.setFlags { s.flags with i := true })

/-- R198, D8: CLD. -/
def execCld (s : State) : Result := .next (s.setFlags { s.flags with d := false })

/-- R199, F8: SED. -/
def execSed (s : State) : Result := .next (s.setFlags { s.flags with d := true })

/-- R200, B8: CLV. -/
def execClv (s : State) : Result := .next (s.setFlags { s.flags with v := false })

/-- R201, EA: NOP. Nothing but the PC advance of the fetch. -/
def execNop (s : State) : Result := .next s

/-- R202, 00: BRK. -/
def execBrk (s : State) : Result := .next (takeBreak s)

/-- R203, 40: RTI. -/
def execRti (s : State) : Result := .next (returnFromInterrupt s)

end Sys2Proof.Machine
end

