-- ==== Sys2Proof/Machine/Dispatch.lean ====
section
/-! DEFINITION. One arm per constructor of `Instr`. `exec` runs in the state the fetch leaves: PC is
past the instruction's last byte (spec/60_exceptions.md R230, spec/10_state.md R15; log 3). -/

namespace Sys2Proof.Machine

def exec (i : Instr) (s : State) : Host.Outcome State Fault Refusal :=
  match i with
  | .ldaImm b => Sys2Proof.Machine.execLdaImm b s
  | .ldaZp b => Sys2Proof.Machine.execLdaZp b s
  | .ldaZpX b => Sys2Proof.Machine.execLdaZpX b s
  | .ldaAbs w => Sys2Proof.Machine.execLdaAbs w s
  | .ldaAbsX w => Sys2Proof.Machine.execLdaAbsX w s
  | .ldaAbsY w => Sys2Proof.Machine.execLdaAbsY w s
  | .ldaIndX b => Sys2Proof.Machine.execLdaIndX b s
  | .ldaIndY b => Sys2Proof.Machine.execLdaIndY b s
  | .ldxImm b => Sys2Proof.Machine.execLdxImm b s
  | .ldxZp b => Sys2Proof.Machine.execLdxZp b s
  | .ldxZpY b => Sys2Proof.Machine.execLdxZpY b s
  | .ldxAbs w => Sys2Proof.Machine.execLdxAbs w s
  | .ldxAbsY w => Sys2Proof.Machine.execLdxAbsY w s
  | .ldyImm b => Sys2Proof.Machine.execLdyImm b s
  | .ldyZp b => Sys2Proof.Machine.execLdyZp b s
  | .ldyZpX b => Sys2Proof.Machine.execLdyZpX b s
  | .ldyAbs w => Sys2Proof.Machine.execLdyAbs w s
  | .ldyAbsX w => Sys2Proof.Machine.execLdyAbsX w s
  | .staZp b => Sys2Proof.Machine.execStaZp b s
  | .staZpX b => Sys2Proof.Machine.execStaZpX b s
  | .staAbs w => Sys2Proof.Machine.execStaAbs w s
  | .staAbsX w => Sys2Proof.Machine.execStaAbsX w s
  | .staAbsY w => Sys2Proof.Machine.execStaAbsY w s
  | .staIndX b => Sys2Proof.Machine.execStaIndX b s
  | .staIndY b => Sys2Proof.Machine.execStaIndY b s
  | .stxZp b => Sys2Proof.Machine.execStxZp b s
  | .stxZpY b => Sys2Proof.Machine.execStxZpY b s
  | .stxAbs w => Sys2Proof.Machine.execStxAbs w s
  | .styZp b => Sys2Proof.Machine.execStyZp b s
  | .styZpX b => Sys2Proof.Machine.execStyZpX b s
  | .styAbs w => Sys2Proof.Machine.execStyAbs w s
  | .tax => Sys2Proof.Machine.execTax s
  | .tay => Sys2Proof.Machine.execTay s
  | .txa => Sys2Proof.Machine.execTxa s
  | .tya => Sys2Proof.Machine.execTya s
  | .tsx => Sys2Proof.Machine.execTsx s
  | .txs => Sys2Proof.Machine.execTxs s
  | .adcImm b => Sys2Proof.Machine.execAdcImm b s
  | .adcZp b => Sys2Proof.Machine.execAdcZp b s
  | .adcZpX b => Sys2Proof.Machine.execAdcZpX b s
  | .adcAbs w => Sys2Proof.Machine.execAdcAbs w s
  | .adcAbsX w => Sys2Proof.Machine.execAdcAbsX w s
  | .adcAbsY w => Sys2Proof.Machine.execAdcAbsY w s
  | .adcIndX b => Sys2Proof.Machine.execAdcIndX b s
  | .adcIndY b => Sys2Proof.Machine.execAdcIndY b s
  | .sbcImm b => Sys2Proof.Machine.execSbcImm b s
  | .sbcZp b => Sys2Proof.Machine.execSbcZp b s
  | .sbcZpX b => Sys2Proof.Machine.execSbcZpX b s
  | .sbcAbs w => Sys2Proof.Machine.execSbcAbs w s
  | .sbcAbsX w => Sys2Proof.Machine.execSbcAbsX w s
  | .sbcAbsY w => Sys2Proof.Machine.execSbcAbsY w s
  | .sbcIndX b => Sys2Proof.Machine.execSbcIndX b s
  | .sbcIndY b => Sys2Proof.Machine.execSbcIndY b s
  | .andImm b => Sys2Proof.Machine.execAndImm b s
  | .andZp b => Sys2Proof.Machine.execAndZp b s
  | .andZpX b => Sys2Proof.Machine.execAndZpX b s
  | .andAbs w => Sys2Proof.Machine.execAndAbs w s
  | .andAbsX w => Sys2Proof.Machine.execAndAbsX w s
  | .andAbsY w => Sys2Proof.Machine.execAndAbsY w s
  | .andIndX b => Sys2Proof.Machine.execAndIndX b s
  | .andIndY b => Sys2Proof.Machine.execAndIndY b s
  | .oraImm b => Sys2Proof.Machine.execOraImm b s
  | .oraZp b => Sys2Proof.Machine.execOraZp b s
  | .oraZpX b => Sys2Proof.Machine.execOraZpX b s
  | .oraAbs w => Sys2Proof.Machine.execOraAbs w s
  | .oraAbsX w => Sys2Proof.Machine.execOraAbsX w s
  | .oraAbsY w => Sys2Proof.Machine.execOraAbsY w s
  | .oraIndX b => Sys2Proof.Machine.execOraIndX b s
  | .oraIndY b => Sys2Proof.Machine.execOraIndY b s
  | .eorImm b => Sys2Proof.Machine.execEorImm b s
  | .eorZp b => Sys2Proof.Machine.execEorZp b s
  | .eorZpX b => Sys2Proof.Machine.execEorZpX b s
  | .eorAbs w => Sys2Proof.Machine.execEorAbs w s
  | .eorAbsX w => Sys2Proof.Machine.execEorAbsX w s
  | .eorAbsY w => Sys2Proof.Machine.execEorAbsY w s
  | .eorIndX b => Sys2Proof.Machine.execEorIndX b s
  | .eorIndY b => Sys2Proof.Machine.execEorIndY b s
  | .cmpImm b => Sys2Proof.Machine.execCmpImm b s
  | .cmpZp b => Sys2Proof.Machine.execCmpZp b s
  | .cmpZpX b => Sys2Proof.Machine.execCmpZpX b s
  | .cmpAbs w => Sys2Proof.Machine.execCmpAbs w s
  | .cmpAbsX w => Sys2Proof.Machine.execCmpAbsX w s
  | .cmpAbsY w => Sys2Proof.Machine.execCmpAbsY w s
  | .cmpIndX b => Sys2Proof.Machine.execCmpIndX b s
  | .cmpIndY b => Sys2Proof.Machine.execCmpIndY b s
  | .cpxImm b => Sys2Proof.Machine.execCpxImm b s
  | .cpxZp b => Sys2Proof.Machine.execCpxZp b s
  | .cpxAbs w => Sys2Proof.Machine.execCpxAbs w s
  | .cpyImm b => Sys2Proof.Machine.execCpyImm b s
  | .cpyZp b => Sys2Proof.Machine.execCpyZp b s
  | .cpyAbs w => Sys2Proof.Machine.execCpyAbs w s
  | .bitZp b => Sys2Proof.Machine.execBitZp b s
  | .bitAbs w => Sys2Proof.Machine.execBitAbs w s
  | .incZp b => Sys2Proof.Machine.execIncZp b s
  | .incZpX b => Sys2Proof.Machine.execIncZpX b s
  | .incAbs w => Sys2Proof.Machine.execIncAbs w s
  | .incAbsX w => Sys2Proof.Machine.execIncAbsX w s
  | .decZp b => Sys2Proof.Machine.execDecZp b s
  | .decZpX b => Sys2Proof.Machine.execDecZpX b s
  | .decAbs w => Sys2Proof.Machine.execDecAbs w s
  | .decAbsX w => Sys2Proof.Machine.execDecAbsX w s
  | .inx => Sys2Proof.Machine.execInx s
  | .iny => Sys2Proof.Machine.execIny s
  | .dex => Sys2Proof.Machine.execDex s
  | .dey => Sys2Proof.Machine.execDey s
  | .aslAcc => Sys2Proof.Machine.execAslAcc s
  | .aslZp b => Sys2Proof.Machine.execAslZp b s
  | .aslZpX b => Sys2Proof.Machine.execAslZpX b s
  | .aslAbs w => Sys2Proof.Machine.execAslAbs w s
  | .aslAbsX w => Sys2Proof.Machine.execAslAbsX w s
  | .lsrAcc => Sys2Proof.Machine.execLsrAcc s
  | .lsrZp b => Sys2Proof.Machine.execLsrZp b s
  | .lsrZpX b => Sys2Proof.Machine.execLsrZpX b s
  | .lsrAbs w => Sys2Proof.Machine.execLsrAbs w s
  | .lsrAbsX w => Sys2Proof.Machine.execLsrAbsX w s
  | .rolAcc => Sys2Proof.Machine.execRolAcc s
  | .rolZp b => Sys2Proof.Machine.execRolZp b s
  | .rolZpX b => Sys2Proof.Machine.execRolZpX b s
  | .rolAbs w => Sys2Proof.Machine.execRolAbs w s
  | .rolAbsX w => Sys2Proof.Machine.execRolAbsX w s
  | .rorAcc => Sys2Proof.Machine.execRorAcc s
  | .rorZp b => Sys2Proof.Machine.execRorZp b s
  | .rorZpX b => Sys2Proof.Machine.execRorZpX b s
  | .rorAbs w => Sys2Proof.Machine.execRorAbs w s
  | .rorAbsX w => Sys2Proof.Machine.execRorAbsX w s
  | .bcc b => Sys2Proof.Machine.execBcc b s
  | .bcs b => Sys2Proof.Machine.execBcs b s
  | .beq b => Sys2Proof.Machine.execBeq b s
  | .bne b => Sys2Proof.Machine.execBne b s
  | .bmi b => Sys2Proof.Machine.execBmi b s
  | .bpl b => Sys2Proof.Machine.execBpl b s
  | .bvc b => Sys2Proof.Machine.execBvc b s
  | .bvs b => Sys2Proof.Machine.execBvs b s
  | .jmpAbs w => Sys2Proof.Machine.execJmpAbs w s
  | .jmpInd w => Sys2Proof.Machine.execJmpInd w s
  | .jsr w => Sys2Proof.Machine.execJsr w s
  | .rts => Sys2Proof.Machine.execRts s
  | .pha => Sys2Proof.Machine.execPha s
  | .pla => Sys2Proof.Machine.execPla s
  | .php => Sys2Proof.Machine.execPhp s
  | .plp => Sys2Proof.Machine.execPlp s
  | .clc => Sys2Proof.Machine.execClc s
  | .sec => Sys2Proof.Machine.execSec s
  | .cli => Sys2Proof.Machine.execCli s
  | .sei => Sys2Proof.Machine.execSei s
  | .cld => Sys2Proof.Machine.execCld s
  | .sed => Sys2Proof.Machine.execSed s
  | .clv => Sys2Proof.Machine.execClv s
  | .nop => Sys2Proof.Machine.execNop s
  | .brk => Sys2Proof.Machine.execBrk s
  | .rti => Sys2Proof.Machine.execRti s
  | .laxZp b => Sys2Proof.Machine.execLaxZp b s
  | .laxZpY b => Sys2Proof.Machine.execLaxZpY b s
  | .laxAbs w => Sys2Proof.Machine.execLaxAbs w s
  | .laxAbsY w => Sys2Proof.Machine.execLaxAbsY w s
  | .laxIndX b => Sys2Proof.Machine.execLaxIndX b s
  | .laxIndY b => Sys2Proof.Machine.execLaxIndY b s
  | .saxZp b => Sys2Proof.Machine.execSaxZp b s
  | .saxZpY b => Sys2Proof.Machine.execSaxZpY b s
  | .saxAbs w => Sys2Proof.Machine.execSaxAbs w s
  | .saxIndX b => Sys2Proof.Machine.execSaxIndX b s
  | .sloZp b => Sys2Proof.Machine.execSloZp b s
  | .sloZpX b => Sys2Proof.Machine.execSloZpX b s
  | .sloAbs w => Sys2Proof.Machine.execSloAbs w s
  | .sloAbsX w => Sys2Proof.Machine.execSloAbsX w s
  | .sloAbsY w => Sys2Proof.Machine.execSloAbsY w s
  | .sloIndX b => Sys2Proof.Machine.execSloIndX b s
  | .sloIndY b => Sys2Proof.Machine.execSloIndY b s
  | .rlaZp b => Sys2Proof.Machine.execRlaZp b s
  | .rlaZpX b => Sys2Proof.Machine.execRlaZpX b s
  | .rlaAbs w => Sys2Proof.Machine.execRlaAbs w s
  | .rlaAbsX w => Sys2Proof.Machine.execRlaAbsX w s
  | .rlaAbsY w => Sys2Proof.Machine.execRlaAbsY w s
  | .rlaIndX b => Sys2Proof.Machine.execRlaIndX b s
  | .rlaIndY b => Sys2Proof.Machine.execRlaIndY b s
  | .sreZp b => Sys2Proof.Machine.execSreZp b s
  | .sreZpX b => Sys2Proof.Machine.execSreZpX b s
  | .sreAbs w => Sys2Proof.Machine.execSreAbs w s
  | .sreAbsX w => Sys2Proof.Machine.execSreAbsX w s
  | .sreAbsY w => Sys2Proof.Machine.execSreAbsY w s
  | .sreIndX b => Sys2Proof.Machine.execSreIndX b s
  | .sreIndY b => Sys2Proof.Machine.execSreIndY b s
  | .rraZp b => Sys2Proof.Machine.execRraZp b s
  | .rraZpX b => Sys2Proof.Machine.execRraZpX b s
  | .rraAbs w => Sys2Proof.Machine.execRraAbs w s
  | .rraAbsX w => Sys2Proof.Machine.execRraAbsX w s
  | .rraAbsY w => Sys2Proof.Machine.execRraAbsY w s
  | .rraIndX b => Sys2Proof.Machine.execRraIndX b s
  | .rraIndY b => Sys2Proof.Machine.execRraIndY b s
  | .dcpZp b => Sys2Proof.Machine.execDcpZp b s
  | .dcpZpX b => Sys2Proof.Machine.execDcpZpX b s
  | .dcpAbs w => Sys2Proof.Machine.execDcpAbs w s
  | .dcpAbsX w => Sys2Proof.Machine.execDcpAbsX w s
  | .dcpAbsY w => Sys2Proof.Machine.execDcpAbsY w s
  | .dcpIndX b => Sys2Proof.Machine.execDcpIndX b s
  | .dcpIndY b => Sys2Proof.Machine.execDcpIndY b s
  | .iscZp b => Sys2Proof.Machine.execIscZp b s
  | .iscZpX b => Sys2Proof.Machine.execIscZpX b s
  | .iscAbs w => Sys2Proof.Machine.execIscAbs w s
  | .iscAbsX w => Sys2Proof.Machine.execIscAbsX w s
  | .iscAbsY w => Sys2Proof.Machine.execIscAbsY w s
  | .iscIndX b => Sys2Proof.Machine.execIscIndX b s
  | .iscIndY b => Sys2Proof.Machine.execIscIndY b s
  | .nopImp1A => Sys2Proof.Machine.execNopImp1A s
  | .nopImp3A => Sys2Proof.Machine.execNopImp3A s
  | .nopImp5A => Sys2Proof.Machine.execNopImp5A s
  | .nopImp7A => Sys2Proof.Machine.execNopImp7A s
  | .nopImpDA => Sys2Proof.Machine.execNopImpDA s
  | .nopImpFA => Sys2Proof.Machine.execNopImpFA s
  | .nopImm80 b => Sys2Proof.Machine.execNopImm80 b s
  | .nopImm82 b => Sys2Proof.Machine.execNopImm82 b s
  | .nopImm89 b => Sys2Proof.Machine.execNopImm89 b s
  | .nopImmC2 b => Sys2Proof.Machine.execNopImmC2 b s
  | .nopImmE2 b => Sys2Proof.Machine.execNopImmE2 b s
  | .nopZp04 b => Sys2Proof.Machine.execNopZp04 b s
  | .nopZp44 b => Sys2Proof.Machine.execNopZp44 b s
  | .nopZp64 b => Sys2Proof.Machine.execNopZp64 b s
  | .nopZpX14 b => Sys2Proof.Machine.execNopZpX14 b s
  | .nopZpX34 b => Sys2Proof.Machine.execNopZpX34 b s
  | .nopZpX54 b => Sys2Proof.Machine.execNopZpX54 b s
  | .nopZpX74 b => Sys2Proof.Machine.execNopZpX74 b s
  | .nopZpXD4 b => Sys2Proof.Machine.execNopZpXD4 b s
  | .nopZpXF4 b => Sys2Proof.Machine.execNopZpXF4 b s
  | .nopAbs0C w => Sys2Proof.Machine.execNopAbs0C w s
  | .nopAbsX1C w => Sys2Proof.Machine.execNopAbsX1C w s
  | .nopAbsX3C w => Sys2Proof.Machine.execNopAbsX3C w s
  | .nopAbsX5C w => Sys2Proof.Machine.execNopAbsX5C w s
  | .nopAbsX7C w => Sys2Proof.Machine.execNopAbsX7C w s
  | .nopAbsXDC w => Sys2Proof.Machine.execNopAbsXDC w s
  | .nopAbsXFC w => Sys2Proof.Machine.execNopAbsXFC w s

end Sys2Proof.Machine
end

