-- ==== Sys2Proof/Machine/Fetch.lean ====
section
/-! DEFINITION. Reading the instruction stream (spec/40_addressing.md R80, R81; spec/60_exceptions.md
R230), and placing an instruction where the next step fetches. -/

namespace Sys2Proof.Machine

/-- R80: `NextByte()`: the byte at PC, and the state with PC advanced by one modulo 65536. -/
def nextByte (s : State) : Byte × State := (readByte s s.pc, s.setPc (s.pc + 1#16))

/-- R81: `NextWord()`: the low byte, then the high byte. -/
def nextWord (s : State) : Addr × State :=
  let lo := nextByte s
  let hi := nextByte lo.2
  (joinBytes hi.1 lo.1, hi.2)

/-- R60, R62: take the operand bytes the opcode's row asks for. -/
def fetchOperands (shape : Shape) (s : State) : Instr × State :=
  match shape with
  | .f1 i => (i, s)
  | .f2 make => (make (nextByte s).1, (nextByte s).2)
  | .f3 make => (make (nextWord s).1, (nextWord s).2)

/-- R17, R233: the state a fault leaves behind: PC past the opcode byte and nothing else changed
(the spec's decision D9, log 2). -/
def stateAfterFault (s : State) : State := (nextByte s).2

/-- Bytes placed from an address upward, modulo 65536. -/
def placeBytes : List Byte → Addr → State → State
  | [], _, s => s
  | b :: bs, at_, s => placeBytes bs (at_ + 1#16) (writeByte s at_ b)

/-- The state with `allow_illegal_ops` = 1 if `op` is a row of the illegal table, else unchanged
(log 13). -/
def enableFor (op : Byte) (s : State) : State :=
  match tableRow op with
  | some row =>
    match row.table with
    | .legal => s
    | .illegal => { s with config := { s.config with allowIllegalOps := true } }
  | none => s

/-- The state with an instruction, as the host numbers its bits, at PC, in a machine constructed so
that its opcode's table is active (log 13). -/
def placeInstruction (s : State) (nbits w : Nat) : State :=
  placeBytes (tableWordBytes nbits w) s.pc (enableFor (BitVec.ofNat 8 (w % 2 ^ nbits)) s)

end Sys2Proof.Machine
end

