-- ==== Sys2Proof/Machine/Step.lean ====
section
/-! DEFINITION. One step: fetch, decode, execute (spec/60_exceptions.md R230). -/

namespace Sys2Proof.Machine

/-- R230: fetch the opcode byte, look it up in the active table, take its operand bytes, execute.
If the byte has no row, `UnimplementedOpcode` (R232); `stateAfterFault` is what is left (R17). -/
def step (s : State) : Host.Outcome State Fault Refusal :=
  let opcode := nextByte s
  match lookup s.config.allowIllegalOps opcode.1 with
  | none => .fault (.unimplementedOpcode opcode.1)
  | some shape =>
    let fetched := fetchOperands shape opcode.2
    exec fetched.1 fetched.2

/-- The state in which the next step fetches and runs the instruction whose bits are `w`, with every
bit from `nbits` up zero (log 13). -/
def State.withFetchWord (s : State) (nbits w : Nat) : State := placeInstruction s nbits w

end Sys2Proof.Machine
end

