-- ==== Sys2Proof/Machine/Access.lean ====
section
/-! DEFINITION. The accesses an instruction makes through the memory port, in order
(spec/40_addressing.md R93, spec/20_memory.md R48). No read has a side effect (R42), so `exec` does
not carry them; they say which cells an instruction depends on and which it stores to, with the same
functions its meaning uses. The order is the spec's decision D3 and the NOP reads its D8 (log 6). -/

namespace Sys2Proof.Machine

/-- One access of the memory port (R40). -/
inductive Access where
  | read (addr : Addr)
  | write (addr : Addr) (v : Byte)
deriving DecidableEq, Repr

/-- R44: the two reads of a word, low byte first. -/
def wordReads (addr : Addr) : List Access := [.read addr, .read (addr + 1#16)]

/-- R93 (3): the pointer reads of an indirect mode; the other modes have none. -/
def pointerReads (m : MemMode) (s : State) : List Access :=
  match m with
  | .indX b => wordReads (zext16 (b + s.x))
  | .indY b => wordReads (zext16 b)
  | .zp _ | .zpX _ | .zpY _ | .abs _ | .absX _ | .absY _ => []

/-- One data read at `EA(mode)`. -/
def readAccesses (m : MemMode) (s : State) : List Access :=
  pointerReads m s ++ [.read (ea m s)]

/-- One data write at `EA(mode)`. -/
def writeAccesses (v : Byte) (m : MemMode) (s : State) : List Access :=
  pointerReads m s ++ [.write (ea m s) v]

/-- One read, then one write of the same cell (R48). -/
def rmwAccesses (f : Unary) (m : MemMode) (s : State) : List Access :=
  pointerReads m s ++ [.read (ea m s), .write (ea m s) (f (memOperand m s) s.flags).1]

/-- The accesses of a mode that may name a memory cell. -/
def onMemMode (accesses : MemMode → State → List Access) (mode : Mode) (s : State) : List Access :=
  match mode with
  | .mem m => accesses m s
  | .implied | .accumulator | .immediate _ | .indirect _ | .relative _ => []

/-- The writes of successive pushes (R50). -/
def pushAccesses : List Byte → Byte → List Access
  | [], _ => []
  | b :: bs, sp => .write (stackAddr sp) b :: pushAccesses bs (sp - 1#8)

/-- The reads of successive pops (R51). -/
def popAccesses : Nat → Byte → List Access
  | 0, _ => []
  | n + 1, sp => .read (stackAddr (sp + 1#8)) :: popAccesses n (sp + 1#8)

/-- The accesses of JMP: the pointer of its indirect form (R89). -/
def jumpAccesses (mode : Mode) : List Access :=
  match mode with
  | .indirect w => wordReads w
  | .implied | .accumulator | .immediate _ | .mem _ | .relative _ => []

/-- R48, R93 (3) to (5): the accesses an instruction makes beyond its own bytes, in order, from the
state the fetch leaves. -/
def dataAccesses (i : Instr) (s : State) : List Access :=
  match i.mnemonic with
  | .lda | .ldx | .ldy | .adc | .sbc | .and | .ora | .eor | .cmp | .cpx | .cpy | .bit | .lax |
  .nopIll => onMemMode readAccesses i.mode s
  | .sta => onMemMode (writeAccesses s.a) i.mode s
  | .stx => onMemMode (writeAccesses s.x) i.mode s
  | .sty => onMemMode (writeAccesses s.y) i.mode s
  | .sax => onMemMode (writeAccesses (s.a &&& s.x)) i.mode s
  | .inc => onMemMode (rmwAccesses inc) i.mode s
  | .dec => onMemMode (rmwAccesses dec) i.mode s
  | .asl => onMemMode (rmwAccesses asl) i.mode s
  | .lsr => onMemMode (rmwAccesses lsr) i.mode s
  | .rol => onMemMode (rmwAccesses rol) i.mode s
  | .ror => onMemMode (rmwAccesses ror) i.mode s
  | .slo => onMemMode (rmwAccesses asl) i.mode s
  | .rla => onMemMode (rmwAccesses rol) i.mode s
  | .sre => onMemMode (rmwAccesses lsr) i.mode s
  | .rra => onMemMode (rmwAccesses ror) i.mode s
  | .dcp => onMemMode (rmwAccesses dec) i.mode s
  | .isc => onMemMode (rmwAccesses inc) i.mode s
  | .jmp => jumpAccesses i.mode
  | .jsr => pushAccesses [hiByte (s.pc - 1#16), loByte (s.pc - 1#16)] s.sp
  | .rts => popAccesses 2 s.sp
  | .rti => popAccesses 3 s.sp
  | .pha => pushAccesses [s.a] s.sp
  | .php => pushAccesses [encodeStatus s.flags] s.sp
  | .pla | .plp => popAccesses 1 s.sp
  | .brk =>
    pushAccesses [hiByte (s.pc + 1#16), loByte (s.pc + 1#16), encodeStatus s.flags] s.sp
      ++ wordReads brkVector
  | .tax | .tay | .txa | .tya | .tsx | .txs | .inx | .iny | .dex | .dey | .bcc | .bcs | .beq |
  .bne | .bmi | .bpl | .bvc | .bvs | .clc | .sec | .cli | .sei | .cld | .sed | .clv | .nop => []

/-- R93 (1), (2): the reads of an instruction's own bytes, in address order. -/
def fetchReads : Nat → Addr → List Access
  | 0, _ => []
  | n + 1, addr => .read addr :: fetchReads n (addr + 1#16)

/-- R93: every access of the step that runs `i` from the state `s`, in order. -/
def stepAccesses (i : Instr) (s : State) : List Access :=
  fetchReads i.length s.pc ++ dataAccesses i (s.setPc (s.pc + BitVec.ofNat 16 i.length))

/-- The memory after the writes of a list of accesses. -/
def replayWrites : List Access → Memory → Memory
  | [], m => m
  | .read _ :: rest, m => replayWrites rest m
  | .write addr v :: rest, m => replayWrites rest (m.write addr.toNat v)

/-- Whether a list of accesses reads a cell. -/
def readsCell (accesses : List Access) (addr : Addr) : Bool :=
  accesses.any fun acc =>
    match acc with
    | .read at_ => at_ == addr
    | .write _ _ => false

/-- Whether a list of accesses writes a cell. -/
def writesCell (accesses : List Access) (addr : Addr) : Bool :=
  accesses.any fun acc =>
    match acc with
    | .read _ => false
    | .write at_ _ => at_ == addr

end Sys2Proof.Machine
end

