-- ==== Sys2Proof/Machine/HostPort.lean ====
section
/-! DEFINITION. What the host can do to the core between steps and see of it
(spec/70_reset_and_hazards.md R250 to R262). -/

namespace Sys2Proof.Machine

/-- R250, R251: reset. The configuration inputs keep their values. -/
def hostReset (s : State) : State := State.powerOn s.config

/-- R257: `load_image(bytes, at)`: copy, additively; no register or flag moves. The range wraps at
0xFFFF (the spec's decision D1, log 4). -/
def hostLoadImage (s : State) (bytes : List Byte) (at_ : Addr) : State := placeBytes bytes at_ s

/-- R258: `load_image!(bytes, at)`: reset, then copy. -/
def hostLoadImageBang (s : State) (bytes : List Byte) (at_ : Addr) : State :=
  hostLoadImage (hostReset s) bytes at_

/-- R256: `load(bytes)`: reset, then copy from the PC the reset leaves, which does not move (the
spec's decision D11, log 11). -/
def hostLoad (s : State) (bytes : List Byte) : State :=
  hostLoadImage (hostReset s) bytes (hostReset s).pc

/-- R256: `load(bytes, at)`: reset, then copy to `at`; PC is `initial_pc`. -/
def hostLoadAt (s : State) (bytes : List Byte) (at_ : Addr) : State :=
  hostLoadImage (hostReset s) bytes at_

/-- R260: `dump_memory(start, length)`. -/
def hostDumpMemory (s : State) (start : Addr) : Nat → List Byte
  | 0 => []
  | length + 1 => readByte s start :: hostDumpMemory s (start + 1#16) length

/-- R262: the read-only debug ports: five registers and seven flag predicates. There is no port for
the packed status. -/
structure DebugPorts where
  a : Byte
  x : Byte
  y : Byte
  pc : Addr
  sp : Byte
  carry : Bool
  zero : Bool
  negative : Bool
  overflow : Bool
  decimalMode : Bool
  interruptDisable : Bool
  break_ : Bool
deriving DecidableEq, Repr

/-- R21, R262: what the debug ports show. -/
def debugPorts (s : State) : DebugPorts :=
  { a := s.a, x := s.x, y := s.y, pc := s.pc, sp := s.sp, carry := s.flags.c, zero := s.flags.z
    negative := s.flags.n, overflow := s.flags.v, decimalMode := s.flags.d
    interruptDisable := s.flags.i, break_ := s.flags.b }

/-- R254, R261: what a step request reports. -/
inductive StepReport where
  | done
  | unimplementedOpcode (op : Byte)
deriving DecidableEq, Repr

/-- R233, R261: a step request as the host sees it: the report, and the state left, from which the
host may step again whatever the report was. An instruction the model gave no meaning would have
neither; there is none. -/
def hostStep (s : State) : Option (StepReport × State) :=
  match step s with
  | .next t => some (.done, t)
  | .fault (.unimplementedOpcode op) => some (.unimplementedOpcode op, stateAfterFault s)
  | .refused _ => none

end Sys2Proof.Machine
end

