-- ==== Sys2Proof/Safety.lean ====
section
/-! DEFINITION. The terms claims about the core use: which registers and flags an instruction may
write or read (spec/10_state.md section 1, R20), what an instruction's effect is, the invariant
of every step, the end of a run (spec/60_exceptions.md R247), the stack as a list (spec/20_memory.md
R53), and BCD encoding (spec/41_alu_primitives.md R104). -/

namespace Sys2Proof.Machine

/-! ## What an instruction writes and reads -/

/-- The four 8-bit registers (R10, R12). -/
inductive Register where
  | a | x | y | sp
deriving DecidableEq, Repr

/-- The value of a register. -/
def State.reg (s : State) : Register → Byte
  | .a => s.a
  | .x => s.x
  | .y => s.y
  | .sp => s.sp

/-- 10_state.md section 1, column "written by", with R12 for SP. For A, the shifts write it in
their accumulator form alone, which `writesReg` adds. -/
def Register.writers : Register → List Mnemonic
  | .a =>
    [.lda, .txa, .tya, .pla, .adc, .sbc, .and, .ora, .eor, .lax, .slo, .rla, .sre, .rra, .isc]
  | .x => [.ldx, .tax, .tsx, .inx, .dex, .lax]
  | .y => [.ldy, .tay, .iny, .dey]
  | .sp => [.txs, .pha, .php, .pla, .plp, .jsr, .rts, .brk, .rti]

/-- Whether an instruction writes a register. -/
def writesReg (i : Instr) (r : Register) : Bool :=
  r.writers.contains i.mnemonic || (r == .a && i.mode == .accumulator)

/-- The seven flags (R18). -/
inductive FlagName where
  | c | z | i | d | b | v | n
deriving DecidableEq, Repr

/-- The value of a flag. -/
def Flags.get (f : Flags) : FlagName → Bool
  | .c => f.c
  | .z => f.z
  | .i => f.i
  | .d => f.d
  | .b => f.b
  | .v => f.v
  | .n => f.n

/-- The flags with one of them replaced. -/
def Flags.put (f : Flags) (name : FlagName) (v : Bool) : Flags :=
  match name with
  | .c => { f with c := v }
  | .z => { f with z := v }
  | .i => { f with i := v }
  | .d => { f with d := v }
  | .b => { f with b := v }
  | .v => { f with v := v }
  | .n => { f with n := v }

/-- The state with one flag replaced. -/
def State.putFlag (s : State) (name : FlagName) (v : Bool) : State :=
  s.setFlags (s.flags.put name v)

/-- R20, column "set or cleared by", for Z, which N shares. -/
def zeroNegativeWriters : List Mnemonic :=
  [.lda, .ldx, .ldy, .lax, .tax, .tay, .txa, .tya, .tsx, .pla, .adc, .sbc, .and, .ora, .eor,
   .cmp, .cpx, .cpy, .bit, .inc, .dec, .inx, .iny, .dex, .dey, .asl, .lsr, .rol, .ror, .plp,
   .rti, .slo, .rla, .sre, .rra, .dcp, .isc]

/-- R20, column "set or cleared by". -/
def FlagName.writers : FlagName → List Mnemonic
  | .c =>
    [.adc, .sbc, .cmp, .cpx, .cpy, .asl, .lsr, .rol, .ror, .sec, .clc, .plp, .rti, .slo, .rla,
     .sre, .rra, .dcp, .isc]
  | .z => zeroNegativeWriters
  | .i =>
    [.sei, .cli, .brk, .plp, .rti]
  | .d =>
    [.sed, .cld, .plp, .rti]
  | .b =>
    [.brk, .plp, .rti]
  | .v =>
    [.adc, .sbc, .bit, .clv, .plp, .rti, .rra, .isc]
  | .n => zeroNegativeWriters

/-- R20, column "read by". -/
def FlagName.readers : FlagName → List Mnemonic
  | .c =>
    [.adc, .sbc, .rol, .ror, .bcc, .bcs, .php, .brk, .rla, .rra, .isc]
  | .z =>
    [.beq, .bne, .php, .brk]
  | .i =>
    [.php, .brk]
  | .d =>
    [.adc, .sbc, .rra, .isc, .php, .brk]
  | .b =>
    []
  | .v =>
    [.bvc, .bvs, .php, .brk]
  | .n =>
    [.bmi, .bpl, .php, .brk]

/-- The instructions that write PC beyond the fetch's advance (R15: "taken branches, JMP, JSR, RTS,
RTI, BRK"). -/
def controlTransfers : List Mnemonic :=
  [.bcc, .bcs, .beq, .bne, .bmi, .bpl, .bvc, .bvs, .jmp, .jsr, .rts, .rti, .brk]

/-- An instruction has this encoding, and in the state `s` its execution completes in `t`. -/
def Effect (s : State) (bytes : List Byte) (i : Instr) (t : State) : Prop :=
  encode i = bytes ∧ exec i s = .next t

/-! ## Invariant and end of a run -/

/-- What every step keeps: the memory's canonical form, and the configuration inputs (R251). -/
abbrev State.Inv (cfg : Config) (s : State) : Prop := s.mem.wf = true ∧ s.config = cfg

/-- R247: a self-jump trap: the step leaves PC unchanged. The core would go on if stepped
again (the spec's decision D14, log 14). -/
def selfJump (s : State) : Bool :=
  match step s with
  | .next t => t.pc == s.pc
  | .fault _ => false
  | .refused _ => false

/-- R247: the end of a run a host conventionally looks for: a self-jump, or the fault. It does not
say that the machine stops, that state no longer changes, or that a program succeeded. -/
def runEnds (s : State) : Bool :=
  match step s with
  | .next t => t.pc == s.pc
  | .fault _ => true
  | .refused _ => true

/-! ## The stack as a list -/

/-- One use of the stack primitives (R50, R51). -/
inductive StackOp where
  | push (b : Byte)
  | pop
deriving DecidableEq, Repr

/-- Run stack operations: the bytes popped, in order, and the state after. -/
def runStack : List StackOp → State → List Byte × State
  | [], s => ([], s)
  | .push b :: ops, s => runStack ops (push b s)
  | .pop :: ops, s =>
    let rest := runStack ops (pop s).2
    ((pop s).1 :: rest.1, rest.2)

/-- The same operations on a list whose head is the top, for at most 256 outstanding bytes and no
pop of an empty stack (R53): the bytes popped, in order. -/
def runLifo : List StackOp → List Byte → Option (List Byte)
  | [], _ => some []
  | .push b :: ops, stack =>
    if stack.length < 256 then runLifo ops (b :: stack) else none
  | .pop :: _, [] => none
  | .pop :: ops, b :: stack => (runLifo ops stack).map (b :: ·)

/-! ## Decimal and signed values -/

/-- R104: the BCD encoding of a number below 100. -/
def bcd (n : Nat) : Byte := BitVec.ofNat 8 (n / 10 * 16 + n % 10)

end Sys2Proof.Machine
end

