-- ==== Sys2Proof/Certificates/Slice0/Obligations.lean ====
section
/-! DEFINITION. The statements about the model for the provers, from the numbered rules of spec/. -/

namespace Sys2Proof.Machine

/-! ## Lists and counts the statements use -/

/-- R65 of spec/30_encoding.md: the opcode bytes of the legal table. -/
def legalBytes : List Nat :=
  [0x00, 0x01, 0x05, 0x06, 0x08, 0x09, 0x0A, 0x0D, 0x0E, 0x10, 0x11, 0x15, 0x16, 0x18, 0x19,
   0x1D, 0x1E, 0x20, 0x21, 0x24, 0x25, 0x26, 0x28, 0x29, 0x2A, 0x2C, 0x2D, 0x2E, 0x30, 0x31,
   0x35, 0x36, 0x38, 0x39, 0x3D, 0x3E, 0x40, 0x41, 0x45, 0x46, 0x48, 0x49, 0x4A, 0x4C, 0x4D,
   0x4E, 0x50, 0x51, 0x55, 0x56, 0x58, 0x59, 0x5D, 0x5E, 0x60, 0x61, 0x65, 0x66, 0x68, 0x69,
   0x6A, 0x6C, 0x6D, 0x6E, 0x70, 0x71, 0x75, 0x76, 0x78, 0x79, 0x7D, 0x7E, 0x81, 0x84, 0x85,
   0x86] ++
  [0x88, 0x8A, 0x8C, 0x8D, 0x8E, 0x90, 0x91, 0x94, 0x95, 0x96, 0x98, 0x99, 0x9A, 0x9D, 0xA0,
   0xA1, 0xA2, 0xA4, 0xA5, 0xA6, 0xA8, 0xA9, 0xAA, 0xAC, 0xAD, 0xAE, 0xB0, 0xB1, 0xB4, 0xB5,
   0xB6, 0xB8, 0xB9, 0xBA, 0xBC, 0xBD, 0xBE, 0xC0, 0xC1, 0xC4, 0xC5, 0xC6, 0xC8, 0xC9, 0xCA,
   0xCC, 0xCD, 0xCE, 0xD0, 0xD1, 0xD5, 0xD6, 0xD8, 0xD9, 0xDD, 0xDE, 0xE0, 0xE1, 0xE4, 0xE5,
   0xE6, 0xE8, 0xE9, 0xEA, 0xEC, 0xED, 0xEE, 0xF0, 0xF1, 0xF5, 0xF6, 0xF8, 0xF9, 0xFD, 0xFE]

/-- R66: the opcode bytes of the illegal table. -/
def illegalBytes : List Nat :=
  [0x03, 0x04, 0x07, 0x0C, 0x0F, 0x13, 0x14, 0x17, 0x1A, 0x1B, 0x1C, 0x1F, 0x23, 0x27, 0x2F,
   0x33, 0x34, 0x37, 0x3A, 0x3B, 0x3C, 0x3F, 0x43, 0x44, 0x47, 0x4F, 0x53, 0x54, 0x57, 0x5A,
   0x5B, 0x5C, 0x5F, 0x63, 0x64, 0x67, 0x6F, 0x73, 0x74, 0x77, 0x7A, 0x7B, 0x7C, 0x7F, 0x80,
   0x82, 0x83, 0x87, 0x89, 0x8F, 0x97, 0xA3, 0xA7, 0xAF, 0xB3, 0xB7, 0xBF, 0xC2, 0xC3, 0xC7,
   0xCF, 0xD3, 0xD4, 0xD7, 0xDA, 0xDB, 0xDC, 0xDF, 0xE2, 0xE3, 0xE7, 0xEF, 0xF3, 0xF4, 0xF7,
   0xFA, 0xFB, 0xFC, 0xFF]

/-- R67: the opcode bytes in neither table. -/
def unmappedBytes : List Nat :=
  [0x02, 0x0B, 0x12, 0x22, 0x2B, 0x32, 0x42, 0x4B, 0x52, 0x62, 0x6B, 0x72, 0x8B, 0x92, 0x93,
   0x9B, 0x9C, 0x9E, 0x9F, 0xAB, 0xB2, 0xBB, 0xCB, 0xD2, 0xEB, 0xF2]

/-- The number of reads in a list of accesses. -/
def readCount : List Access → Nat
  | [] => 0
  | .read _ :: rest => readCount rest + 1
  | .write _ _ :: rest => readCount rest

/-- The number of writes in a list of accesses. -/
def writeCount : List Access → Nat
  | [] => 0
  | .read _ :: rest => writeCount rest
  | .write _ _ :: rest => writeCount rest + 1

/-- R48: the pointer reads of a mode. -/
def expectedPointerReads : Mode → Nat
  | .mem (.indX _) | .mem (.indY _) => 2
  | _ => 0

/-- R48: whether a mode names a memory cell. -/
def namesCell : Mode → Nat
  | .mem _ => 1
  | _ => 0

/-- R48: the data reads of an instruction. -/
def expectedReads (i : Instr) : Nat :=
  if i.mnemonic ∈ [.sta, .stx, .sty, .sax] then expectedPointerReads i.mode
  else if i.mnemonic ∈ [.jsr, .pha, .php] then 0
  else if i.mnemonic ∈ [.pla, .plp] then 1
  else if i.mnemonic ∈ [.rts, .brk] then 2
  else if i.mnemonic = .rti then 3
  else if i.mnemonic = .jmp then (if i.mode.format = .f3 ∧ namesCell i.mode = 0 then 2 else 0)
  else expectedPointerReads i.mode + namesCell i.mode

/-- R48: the data writes of an instruction. -/
def expectedWrites (i : Instr) : Nat :=
  if i.mnemonic ∈ [.sta, .stx, .sty, .sax] then 1
  else if i.mnemonic ∈ [.inc, .dec, .asl, .lsr, .rol, .ror, .slo, .rla, .sre, .rra, .dcp, .isc] then
    namesCell i.mode
  else if i.mnemonic = .jsr then 2
  else if i.mnemonic = .brk then 3
  else if i.mnemonic ∈ [.pha, .php] then 1
  else 0

end Sys2Proof.Machine

open Sys2Proof Sys2Proof.Machine

/-- What reset leaves: registers, flags and every memory cell (R32, R250).
Under every configuration, the state after construction or reset has A, X, Y = 0x00, SP = 0xFF,
PC = initial_pc, all seven flags 0 and every memory cell 0x00, and a host reset of any state
gives it again under the same configuration; the default configuration has initial_pc 0x0600 and
illegal opcodes disabled. -/
def Obligations.ResetState : Prop :=
  ∀ (cfg : Config) (s : State) (addr : Addr),
  (State.powerOn cfg).a = 0x00#8 ∧ (State.powerOn cfg).x = 0x00#8 ∧
  (State.powerOn cfg).y = 0x00#8 ∧ (State.powerOn cfg).sp = 0xFF#8 ∧
  (State.powerOn cfg).pc = cfg.initialPc ∧
  (State.powerOn cfg).flags = ⟨false, false, false, false, false, false, false⟩ ∧
  readByte (State.powerOn cfg) addr = 0x00#8 ∧ (State.powerOn cfg).config = cfg ∧
  hostReset s = State.powerOn s.config ∧
  State.reset = State.powerOn { initialPc := 0x0600#16, allowIllegalOps := false }

/-- Every reset state meets the invariant of the step (20_memory.md section 1, 10_state.md
section 7, 70_reset_and_hazards.md section 1).
For every configuration, the reset state has its memory in canonical form and carries that
configuration. The canonical form is the model's own (log 1 and the docstring of Memory.wf);
that configuration inputs keep their values is the spec's. -/
def Obligations.ResetMeetsInvariant : Prop :=
  ∀ cfg : Config, (State.powerOn cfg).Inv cfg

/-- Every step keeps the canonical memory and the configuration inputs (20_memory.md section 1,
70_reset_and_hazards.md section 1).
For every state that meets the invariant, whether or not a run reaches it: if a step answers a
next state, that state has its memory in canonical form (addresses strictly rising, below 65536,
no listed byte 0x00) and the same configuration inputs. The canonical form is the model's own. -/
def Obligations.StepKeepsInvariant : Prop :=
  ∀ (cfg : Config) (s t : State), s.Inv cfg → step s = .next t → t.Inv cfg

/-- A cell reads as the byte last written to it since reset, or 0x00 (R42, R43).
After any list of byte writes from a reset state, each cell reads as the last byte written to
it, or 0x00 if none was; and from any state a byte write changes that one cell and nothing else:
no other cell, register, flag or input. -/
def Obligations.MemoryReadsLastWrite : Prop :=
  (∀ (cfg : Config) (writes : List (Addr × Byte)) (addr : Addr),
    readByte (writes.foldl (fun s w => writeByte s w.1 w.2) (State.powerOn cfg)) addr =
      ((writes.reverse.find? fun w => w.1 == addr).map Prod.snd).getD 0x00#8) ∧
  ∀ (s : State) (addr other : Addr) (v : Byte),
    readByte (writeByte s addr v) addr = v ∧
    (other ≠ addr → readByte (writeByte s addr v) other = readByte s other) ∧
    writeByte s addr v = { s with mem := (writeByte s addr v).mem }

/-- A word read takes the low byte at the address and the high byte at the next, modulo 65536
(20_memory.md section 1, 92_eei_decisions.md D1, 92_eei_decisions.md D2).
For every state and address, the word read there is the byte at the address plus 256 times the
byte at the next address modulo 65536, with no zero-page and no page wrap. The wrap at 0xFFFF
and its absence at 0x00FF are the spec's decisions D1 and D2 (logs 4 and 5). -/
def Obligations.WordReadIsLittleEndian : Prop :=
  ∀ (s : State) (addr : Addr),
  (readWord s addr).toNat =
    (readByte s addr).toNat + 256 * (readByte s (BitVec.ofNat 16 ((addr.toNat + 1) % 65536))).toNat

/-- What Push and Pop do to SP and the stack page (R50, R51, R52).
Push writes the byte at 0x0100 + SP, leaves every other cell, and decrements SP modulo 256; Pop
increments SP modulo 256 and answers the byte at 0x0100 + SP; nothing else changes. A return
address is pushed high byte first, so its low byte lies at the lower stack index, and is popped
low byte first as {hi, lo}. -/
def Obligations.PushAndPop : Prop :=
  ∀ (s : State) (b : Byte) (w addr : Addr),
  readByte (push b s) (BitVec.ofNat 16 (0x0100 + s.sp.toNat)) = b ∧
  (addr ≠ BitVec.ofNat 16 (0x0100 + s.sp.toNat) → readByte (push b s) addr = readByte s addr) ∧
  (push b s).sp.toNat = (s.sp.toNat + 255) % 256 ∧
  push b s = { s with sp := (push b s).sp, mem := (push b s).mem } ∧
  (pop s).1 = readByte s (BitVec.ofNat 16 (0x0100 + (s.sp.toNat + 1) % 256)) ∧
  (pop s).2.sp.toNat = (s.sp.toNat + 1) % 256 ∧
  (pop s).2 = { s with sp := (pop s).2.sp } ∧
  pushWord w s = push (loByte w) (push (hiByte w) s) ∧
  popWord s = (joinBytes (pop (pop s).2).1 (pop s).1, (pop (pop s).2).2) ∧
  (popWord (pushWord w s)).1 = w ∧ (popWord (pushWord w s)).2.sp = s.sp

/-- Push and Pop refine a list used as a stack (20_memory.md section 5).
From any state, whatever its SP, any interleaving of pushes and pops that never has more than
256 bytes outstanding and never pops an empty stack returns the bytes in last-in first-out
order. -/
def Obligations.StackIsLifo : Prop :=
  ∀ (ops : List StackOp) (popped : List Byte) (s : State),
  runLifo ops [] = some popped → (runStack ops s).1 = popped

/-- The layout of the packed status, encoded and decoded (R22, R23).
Encode has N, V, 1, 1, D, I, Z, C in bits 7 to 0 whatever B holds; Decode takes C, Z, I, D, B,
V, N from bits 0, 1, 2, 3, 4, 6, 7 and ignores bit 5. -/
def Obligations.PackedStatusLayout : Prop :=
  (∀ f : Flags,
    (encodeStatus f).getLsbD 7 = f.n ∧ (encodeStatus f).getLsbD 6 = f.v ∧
    (encodeStatus f).getLsbD 5 = true ∧ (encodeStatus f).getLsbD 4 = true ∧
    (encodeStatus f).getLsbD 3 = f.d ∧ (encodeStatus f).getLsbD 2 = f.i ∧
    (encodeStatus f).getLsbD 1 = f.z ∧ (encodeStatus f).getLsbD 0 = f.c ∧
    (encodeStatus f).toNat = 0x30 + 128 * bitOf f.n + 64 * bitOf f.v + 8 * bitOf f.d
      + 4 * bitOf f.i + 2 * bitOf f.z + bitOf f.c) ∧
  ∀ p : Byte,
    (decodeStatus p).c = p.getLsbD 0 ∧ (decodeStatus p).z = p.getLsbD 1 ∧
    (decodeStatus p).i = p.getLsbD 2 ∧ (decodeStatus p).d = p.getLsbD 3 ∧
    (decodeStatus p).b = p.getLsbD 4 ∧ (decodeStatus p).v = p.getLsbD 6 ∧
    (decodeStatus p).n = p.getLsbD 7 ∧ decodeStatus (p ^^^ 0x20#8) = decodeStatus p

/-- Encode then Decode keeps six flags and leaves B = 1; PHP then PLP does so through the stack
(10_state.md section 5, 46_stack_flags_system.md section Stack instructions).
Decode(Encode()) keeps C, Z, I, D, V, N and makes B 1; Encode(Decode(b)) is b with bits 5 and 4
set; and a PHP followed by a PLP leaves SP, A, X, Y, PC and the six flags as they were, B = 1,
and only the pushed cell changed. -/
def Obligations.StatusRoundTrip : Prop :=
  (∀ f : Flags, decodeStatus (encodeStatus f) = { f with b := true }) ∧
  (∀ p : Byte, encodeStatus (decodeStatus p) = p ||| 0x30#8) ∧
  ∀ s : State, ∃ t, exec .php s = .next t ∧
    exec .plp t = .next { s with
      flags := { s.flags with b := true }
      mem := (writeByte s (stackAddr s.sp) (encodeStatus s.flags)).mem }

/-- Effective addresses of zp, zp,X, zp,Y and abs (R85, R86, R87).
The effective address is the operand byte for zp, the operand byte plus X or Y modulo 256 for
zp,X and zp,Y (so always below 0x0100), and the operand word for abs. -/
def Obligations.ZeroPageAndAbsoluteAddresses : Prop :=
  ∀ (s : State) (b : Byte) (w : Addr),
  (ea (.zp b) s).toNat = b.toNat ∧
  (ea (.zpX b) s).toNat = (b.toNat + s.x.toNat) % 256 ∧
  (ea (.zpY b) s).toNat = (b.toNat + s.y.toNat) % 256 ∧
  ea (.abs w) s = w

/-- Effective addresses of abs,X, abs,Y, (zp,X), (zp),Y and the target of (indirect)
(40_addressing.md sections 4 and 5, 92_eei_decisions.md D1, 92_eei_decisions.md D2).
abs,X and abs,Y add the unsigned index modulo 65536; (zp,X) is the word at the pointer (operand
+ X) modulo 256; (zp),Y is the word at the operand plus Y modulo 65536; the pointer's high byte
is always at pointer + 1, from 0x0100 for a pointer at 0xFF; JMP (indirect) reads pointer + 1
modulo 65536 with no page bug. Decisions D1, D2 and D18 of the spec (logs 4 and 5). -/
def Obligations.IndexedAndIndirectAddresses : Prop :=
  ∀ (s : State) (b : Byte) (w : Addr),
  (ea (.absX w) s).toNat = (w.toNat + s.x.toNat) % 65536 ∧
  (ea (.absY w) s).toNat = (w.toNat + s.y.toNat) % 65536 ∧
  (ea (.indX b) s).toNat =
    (readByte s (BitVec.ofNat 16 ((b.toNat + s.x.toNat) % 256))).toNat
      + 256 * (readByte s (BitVec.ofNat 16 ((b.toNat + s.x.toNat) % 256 + 1))).toNat ∧
  (ea (.indY b) s).toNat =
    ((readByte s (BitVec.ofNat 16 b.toNat)).toNat
      + 256 * (readByte s (BitVec.ofNat 16 (b.toNat + 1))).toNat + s.y.toNat) % 65536 ∧
  (readJumpPointer s w).toNat =
    (readByte s w).toNat
      + 256 * (readByte s (BitVec.ofNat 16 ((w.toNat + 1) % 65536))).toNat

/-- A branch target is PC plus the signed offset, modulo 65536 (41_alu_primitives.md section 8,
92_eei_decisions.md D1).
In a state whose PC is past the offset byte, the target is PC + off for off up to 0x7F and PC +
off - 256 above it, reduced modulo 65536 (the spec's decision D1, log 4). -/
def Obligations.BranchTargetIsSigned : Prop :=
  ∀ (s : State) (off : Byte),
  ((branchTarget off s).toNat : Int) =
    ((s.pc.toNat : Int) + (if off.toNat ≤ 0x7F then (off.toNat : Int) else (off.toNat : Int) - 256))
      % 65536

/-- SetZN: Z is 1 exactly when the byte is 0x00, N is its bit 7 (R100).
For every byte and every flags: Z after SetZN is 1 exactly for the byte 0x00, N exactly for 0x80
and above, and no other flag changes. -/
def Obligations.SetZeroNegative : Prop :=
  ∀ (r : Byte) (f : Flags),
  ((setZN r f).z = true ↔ r.toNat = 0) ∧ ((setZN r f).n = true ↔ 128 ≤ r.toNat) ∧
  setZN r f = { f with z := (setZN r f).z, n := (setZN r f).n }

/-- ADC: binary addition with carry, its four flags, and the choice by D (R101, R102).
Adc is AdcBin if D = 0 and AdcDec if D = 1. AdcBin answers (A + v + C) modulo 256; C is 1
exactly when the sum exceeds 255; V is 1 exactly when the carry into bit 7 differs from the
carry out of bit 7; Z and N are the result's; I, D, B are unchanged. -/
def Obligations.BinaryAdd : Prop :=
  ∀ (a v : Byte) (f : Flags),
  adc a v f = (if f.d then adcDec a v f else adcBin a v f) ∧
  (adcBin a v f).1.toNat = (a.toNat + v.toNat + bitOf f.c) % 256 ∧
  ((adcBin a v f).2.c = true ↔ 255 < a.toNat + v.toNat + bitOf f.c) ∧
  ((adcBin a v f).2.v = true ↔
    ¬(128 ≤ a.toNat % 128 + v.toNat % 128 + bitOf f.c ↔ 256 ≤ a.toNat + v.toNat + bitOf f.c)) ∧
  ((adcBin a v f).2.z = true ↔ (a.toNat + v.toNat + bitOf f.c) % 256 = 0) ∧
  ((adcBin a v f).2.n = true ↔ 128 ≤ (a.toNat + v.toNat + bitOf f.c) % 256) ∧
  (adcBin a v f).2.i = f.i ∧ (adcBin a v f).2.d = f.d ∧ (adcBin a v f).2.b = f.b

/-- AdcBin sets V exactly when the signed sum is out of range (41_alu_primitives.md section 2).
Reading A and v as two's-complement values a and b, V after AdcBin is 1 exactly when a + b + c
is above 127 or below -128 (a law the spec derives from its R102). -/
def Obligations.BinaryAddOverflowIsSigned : Prop :=
  ∀ (a v : Byte) (f : Flags),
  (adcBin a v f).2.v = true ↔
    (127 < a.toInt + v.toInt + (bitOf f.c : Int) ∨ a.toInt + v.toInt + (bitOf f.c : Int) < -128)

/-- SBC: binary subtraction with borrow, its four flags, and the choice by D (R105).
Sbc is AdcBin(v xor 0xFF) if D = 0 and SbcDec if D = 1. With D = 0: A becomes A - v - (1 - C)
modulo 256; C is 1 exactly when there is no borrow; V is 1 exactly when the signed difference is
outside -128..127; Z and N are the result's; I, D, B are unchanged. -/
def Obligations.BinarySubtract : Prop :=
  ∀ (a v : Byte) (f : Flags),
  sbc a v f = (if f.d then sbcDec a v f else adcBin a (v ^^^ 0xFF#8) f) ∧
  (f.d = false →
    ((sbc a v f).1.toNat : Int) = ((a.toNat : Int) - v.toNat - (1 - bitOf f.c)) % 256 ∧
    ((sbc a v f).2.c = true ↔ v.toNat + (1 - bitOf f.c) ≤ a.toNat) ∧
    ((sbc a v f).2.v = true ↔
      (127 < a.toInt - v.toInt - (1 - (bitOf f.c : Int)) ∨
        a.toInt - v.toInt - (1 - (bitOf f.c : Int)) < -128)) ∧
    ((sbc a v f).2.z = true ↔ (sbc a v f).1.toNat = 0) ∧
    ((sbc a v f).2.n = true ↔ 128 ≤ (sbc a v f).1.toNat) ∧
    (sbc a v f).2.i = f.i ∧ (sbc a v f).2.d = f.d ∧ (sbc a v f).2.b = f.b)

/-- Decimal ADC and SBC compute modulo 100 on BCD encodings (41_alu_primitives.md sections 2 and
3, 92_eei_decisions.md D6).
For decimal values x and y below 100: AdcDec of their BCD encodings is the BCD encoding of (x +
y + c) mod 100 with C = 1 exactly when the sum exceeds 99, and SbcDec is that of (x - y - (1 -
c)) mod 100 with C = 1 exactly when the difference is not negative; Z and N are those of the
final byte; I, D, B are unchanged. The functions are the spec's decision D6 (log 9). V, and
operands that are no BCD encodings, are in DecimalAddOnAllNibbles and
DecimalSubtractOnAllNibbles. -/
def Obligations.DecimalArithmeticIsBcd : Prop :=
  ∀ (x y : Nat) (f : Flags), x < 100 → y < 100 →
  (adcDec (bcd x) (bcd y) f).1 = bcd ((x + y + bitOf f.c) % 100) ∧
  ((adcDec (bcd x) (bcd y) f).2.c = true ↔ 99 < x + y + bitOf f.c) ∧
  (sbcDec (bcd x) (bcd y) f).1 = bcd ((x + 100 + bitOf f.c - 1 - y) % 100) ∧
  ((sbcDec (bcd x) (bcd y) f).2.c = true ↔ y + (1 - bitOf f.c) ≤ x) ∧
  ((adcDec (bcd x) (bcd y) f).2.z = true ↔ (adcDec (bcd x) (bcd y) f).1.toNat = 0) ∧
  ((adcDec (bcd x) (bcd y) f).2.n = true ↔ 128 ≤ (adcDec (bcd x) (bcd y) f).1.toNat) ∧
  ((sbcDec (bcd x) (bcd y) f).2.z = true ↔ (sbcDec (bcd x) (bcd y) f).1.toNat = 0) ∧
  ((sbcDec (bcd x) (bcd y) f).2.n = true ↔ 128 ≤ (sbcDec (bcd x) (bcd y) f).1.toNat) ∧
  (adcDec (bcd x) (bcd y) f).2.i = f.i ∧ (adcDec (bcd x) (bcd y) f).2.d = f.d ∧
  (adcDec (bcd x) (bcd y) f).2.b = f.b ∧ (sbcDec (bcd x) (bcd y) f).2.i = f.i ∧
  (sbcDec (bcd x) (bcd y) f).2.d = f.d ∧ (sbcDec (bcd x) (bcd y) f).2.b = f.b

/-- Decimal ADC on every pair of bytes, by nibbles, with every flag (41_alu_primitives.md
section 2, 92_eei_decisions.md D6).
For bytes with nibbles ah, al and vh, vl (any of 0 to 15): the low sum al + vl + c is corrected
to 16 + (low + 6) mod 16 when it is at least 10; t adds the high nibbles; C is 1 exactly when t
is at least 0xA0, and then 0x60 is added; V is 1 exactly when bits 7 of the inputs agree and t
lies in 0x80..0x9F (C = 0) or 0xA0..0x17F (C = 1); Z and N are those of the final byte; I, D, B
are unchanged. This is the spec's decision D6 (log 9). -/
def Obligations.DecimalAddOnAllNibbles : Prop :=
  ∀ (ah al vh vl t : Nat) (f : Flags), ah < 16 → al < 16 → vh < 16 → vl < 16 →
  t = (if al + vl + bitOf f.c < 10 then al + vl + bitOf f.c
       else 16 + (al + vl + bitOf f.c + 6) % 16) + 16 * ah + 16 * vh →
  (adcDec (BitVec.ofNat 8 (16 * ah + al)) (BitVec.ofNat 8 (16 * vh + vl)) f).1.toNat =
    (if t < 160 then t else t + 96) % 256 ∧
  ((adcDec (BitVec.ofNat 8 (16 * ah + al)) (BitVec.ofNat 8 (16 * vh + vl)) f).2.c = true ↔
    160 ≤ t) ∧
  ((adcDec (BitVec.ofNat 8 (16 * ah + al)) (BitVec.ofNat 8 (16 * vh + vl)) f).2.v = true ↔
    ((ah < 8 ↔ vh < 8) ∧ 128 ≤ t ∧ t < 384)) ∧
  ((adcDec (BitVec.ofNat 8 (16 * ah + al)) (BitVec.ofNat 8 (16 * vh + vl)) f).2.z = true ↔
    (if t < 160 then t else t + 96) % 256 = 0) ∧
  ((adcDec (BitVec.ofNat 8 (16 * ah + al)) (BitVec.ofNat 8 (16 * vh + vl)) f).2.n = true ↔
    128 ≤ (if t < 160 then t else t + 96) % 256) ∧
  (adcDec (BitVec.ofNat 8 (16 * ah + al)) (BitVec.ofNat 8 (16 * vh + vl)) f).2.i = f.i ∧
  (adcDec (BitVec.ofNat 8 (16 * ah + al)) (BitVec.ofNat 8 (16 * vh + vl)) f).2.d = f.d ∧
  (adcDec (BitVec.ofNat 8 (16 * ah + al)) (BitVec.ofNat 8 (16 * vh + vl)) f).2.b = f.b

/-- Compare: C is unsigned not-below, Z equality, N bit 7 of the difference (R107).
After Compare(reg, v): C is 1 exactly when reg >= v unsigned, Z exactly when they are equal, N
is bit 7 of (reg - v) modulo 256; V, D, I, B are unchanged, and D has no effect. -/
def Obligations.CompareFlags : Prop :=
  ∀ (reg v : Byte) (f : Flags),
  ((compareReg reg v f).c = true ↔ v.toNat ≤ reg.toNat) ∧
  ((compareReg reg v f).z = true ↔ reg = v) ∧
  ((compareReg reg v f).n = true ↔ 128 ≤ (reg.toNat + 256 - v.toNat) % 256) ∧
  (compareReg reg v f).v = f.v ∧ (compareReg reg v f).d = f.d ∧ (compareReg reg v f).i = f.i ∧
  (compareReg reg v f).b = f.b

/-- Asl, Lsr, Rol, Ror: result, carry out, zero and negative (R108, R109, R110, R111).
Asl answers 2v modulo 256, Lsr v / 2, Rol 2v modulo 256 plus the old carry, Ror v / 2 plus 128
times the old carry; C becomes bit 7 of v for Asl and Rol and bit 0 for Lsr and Ror; Z and N are
the result's; I, D, B, V are unchanged. -/
def Obligations.ShiftsAndRotates : Prop :=
  ∀ (v : Byte) (f : Flags),
  (asl v f).1.toNat = 2 * v.toNat % 256 ∧ (lsr v f).1.toNat = v.toNat / 2 ∧
  (rol v f).1.toNat = 2 * v.toNat % 256 + bitOf f.c ∧
  (ror v f).1.toNat = v.toNat / 2 + 128 * bitOf f.c ∧
  ((asl v f).2.c = true ↔ 128 ≤ v.toNat) ∧ ((rol v f).2.c = true ↔ 128 ≤ v.toNat) ∧
  ((lsr v f).2.c = true ↔ v.toNat % 2 = 1) ∧ ((ror v f).2.c = true ↔ v.toNat % 2 = 1) ∧
  ∀ op ∈ [asl, lsr, rol, ror],
    ((op v f).2.z = true ↔ (op v f).1.toNat = 0) ∧
    ((op v f).2.n = true ↔ 128 ≤ (op v f).1.toNat) ∧
    (op v f).2.i = f.i ∧ (op v f).2.d = f.d ∧ (op v f).2.b = f.b ∧ (op v f).2.v = f.v

/-- Inc and Dec: plus or minus one modulo 256, Z and N only (R112, R113).
Inc answers (v + 1) modulo 256 and Dec (v - 1) modulo 256; Z and N are the result's; C, V and
every other flag are unchanged. -/
def Obligations.IncrementAndDecrement : Prop :=
  ∀ (v : Byte) (f : Flags),
  (inc v f).1.toNat = (v.toNat + 1) % 256 ∧ (dec v f).1.toNat = (v.toNat + 255) % 256 ∧
  ∀ op ∈ [inc, dec],
    ((op v f).2.z = true ↔ (op v f).1.toNat = 0) ∧
    ((op v f).2.n = true ↔ 128 ≤ (op v f).1.toNat) ∧
    (op v f).2 = { f with z := (op v f).2.z, n := (op v f).2.n }

/-- And, Ora, Eor bit by bit with Z and N of the result; Bit with Z from the AND and V, N from
the operand (R114, R116).
And, Ora and Eor combine A and v bit by bit and set Z and N from the result, no other flag; Bit
sets Z exactly when A and v have no common bit, V to bit 6 and N to bit 7 of the operand, and no
other flag. -/
def Obligations.LogicAndBitTest : Prop :=
  ∀ (a v : Byte) (f : Flags),
  (∀ k, k < 8 → (andA a v f).1.getLsbD k = (a.getLsbD k && v.getLsbD k) ∧
    (oraA a v f).1.getLsbD k = (a.getLsbD k || v.getLsbD k) ∧
    (eorA a v f).1.getLsbD k = (a.getLsbD k ^^ v.getLsbD k)) ∧
  (∀ op ∈ [andA, oraA, eorA],
    ((op a v f).2.z = true ↔ (op a v f).1.toNat = 0) ∧
    ((op a v f).2.n = true ↔ 128 ≤ (op a v f).1.toNat) ∧
    (op a v f).2 = { f with z := (op a v f).2.z, n := (op a v f).2.n }) ∧
  ((bitTest a v f).z = true ↔ ∀ k, k < 8 → (a.getLsbD k && v.getLsbD k) = false) ∧
  ((bitTest a v f).v = true ↔ 64 ≤ v.toNat % 128) ∧
  ((bitTest a v f).n = true ↔ 128 ≤ v.toNat) ∧
  bitTest a v f =
    { f with z := (bitTest a v f).z, v := (bitTest a v f).v, n := (bitTest a v f).n }

/-- LDA, LDX, LDY in all their modes (R120, R121, R122).
LDA, LDX and LDY load the operand of each of their modes into A, X, Y and set Z and N from it.
Each clause gives the encoding and says that exec completes, from every state, in exactly the
state written: whatever is not written there is unchanged. Opcode bytes, and flag effects the
cited rules mark as general knowledge, are taken as those rules state them (logs 10 and 12). -/
def Obligations.LoadsSetRegisterZeroNegative : Prop :=
  ∀ (s : State) (b : Byte) (w : Addr),
  Effect s [0xA9#8, b] (.ldaImm b) { s with a := b, flags := setZN b s.flags } ∧
  Effect s [0xA5#8, b] (.ldaZp b)
    { s with a := (memOperand (.zp b) s), flags := setZN (memOperand (.zp b) s) s.flags } ∧
  Effect s [0xB5#8, b] (.ldaZpX b)
    { s with a := (memOperand (.zpX b) s), flags := setZN (memOperand (.zpX b) s) s.flags } ∧
  Effect s [0xAD#8, loByte w, hiByte w] (.ldaAbs w)
    { s with a := (memOperand (.abs w) s), flags := setZN (memOperand (.abs w) s) s.flags } ∧
  Effect s [0xBD#8, loByte w, hiByte w] (.ldaAbsX w)
    { s with a := (memOperand (.absX w) s), flags := setZN (memOperand (.absX w) s) s.flags } ∧
  Effect s [0xB9#8, loByte w, hiByte w] (.ldaAbsY w)
    { s with a := (memOperand (.absY w) s), flags := setZN (memOperand (.absY w) s) s.flags } ∧
  Effect s [0xA1#8, b] (.ldaIndX b)
    { s with a := (memOperand (.indX b) s), flags := setZN (memOperand (.indX b) s) s.flags } ∧
  Effect s [0xB1#8, b] (.ldaIndY b)
    { s with a := (memOperand (.indY b) s), flags := setZN (memOperand (.indY b) s) s.flags } ∧
  Effect s [0xA2#8, b] (.ldxImm b) { s with x := b, flags := setZN b s.flags } ∧
  Effect s [0xA6#8, b] (.ldxZp b)
    { s with x := (memOperand (.zp b) s), flags := setZN (memOperand (.zp b) s) s.flags } ∧
  Effect s [0xB6#8, b] (.ldxZpY b)
    { s with x := (memOperand (.zpY b) s), flags := setZN (memOperand (.zpY b) s) s.flags } ∧
  Effect s [0xAE#8, loByte w, hiByte w] (.ldxAbs w)
    { s with x := (memOperand (.abs w) s), flags := setZN (memOperand (.abs w) s) s.flags } ∧
  Effect s [0xBE#8, loByte w, hiByte w] (.ldxAbsY w)
    { s with x := (memOperand (.absY w) s), flags := setZN (memOperand (.absY w) s) s.flags } ∧
  Effect s [0xA0#8, b] (.ldyImm b) { s with y := b, flags := setZN b s.flags } ∧
  Effect s [0xA4#8, b] (.ldyZp b)
    { s with y := (memOperand (.zp b) s), flags := setZN (memOperand (.zp b) s) s.flags } ∧
  Effect s [0xB4#8, b] (.ldyZpX b)
    { s with y := (memOperand (.zpX b) s), flags := setZN (memOperand (.zpX b) s) s.flags } ∧
  Effect s [0xAC#8, loByte w, hiByte w] (.ldyAbs w)
    { s with y := (memOperand (.abs w) s), flags := setZN (memOperand (.abs w) s) s.flags } ∧
  Effect s [0xBC#8, loByte w, hiByte w] (.ldyAbsX w)
    { s with y := (memOperand (.absX w) s), flags := setZN (memOperand (.absX w) s) s.flags }

/-- STA, STX, STY in all their modes (R123, R124, R125).
STA, STX and STY write A, X, Y to the cell at the effective address of each of their modes and
write no register and no flag. Each clause gives the encoding and says that exec completes, from
every state, in exactly the state written: whatever is not written there is unchanged. Opcode
bytes, and flag effects the cited rules mark as general knowledge, are taken as those rules
state them (logs 10 and 12). -/
def Obligations.StoresWriteOneCell : Prop :=
  ∀ (s : State) (b : Byte) (w : Addr),
  Effect s [0x85#8, b] (.staZp b) (writeByte s (ea (.zp b) s) s.a) ∧
  Effect s [0x95#8, b] (.staZpX b) (writeByte s (ea (.zpX b) s) s.a) ∧
  Effect s [0x8D#8, loByte w, hiByte w] (.staAbs w) (writeByte s (ea (.abs w) s) s.a) ∧
  Effect s [0x9D#8, loByte w, hiByte w] (.staAbsX w) (writeByte s (ea (.absX w) s) s.a) ∧
  Effect s [0x99#8, loByte w, hiByte w] (.staAbsY w) (writeByte s (ea (.absY w) s) s.a) ∧
  Effect s [0x81#8, b] (.staIndX b) (writeByte s (ea (.indX b) s) s.a) ∧
  Effect s [0x91#8, b] (.staIndY b) (writeByte s (ea (.indY b) s) s.a) ∧
  Effect s [0x86#8, b] (.stxZp b) (writeByte s (ea (.zp b) s) s.x) ∧
  Effect s [0x96#8, b] (.stxZpY b) (writeByte s (ea (.zpY b) s) s.x) ∧
  Effect s [0x8E#8, loByte w, hiByte w] (.stxAbs w) (writeByte s (ea (.abs w) s) s.x) ∧
  Effect s [0x84#8, b] (.styZp b) (writeByte s (ea (.zp b) s) s.y) ∧
  Effect s [0x94#8, b] (.styZpX b) (writeByte s (ea (.zpX b) s) s.y) ∧
  Effect s [0x8C#8, loByte w, hiByte w] (.styAbs w) (writeByte s (ea (.abs w) s) s.y)

/-- TAX, TAY, TXA, TYA, TSX, TXS (R126, R127, R128, R129, R130, R131).
The transfers copy a register, set Z and N from it (TXS sets no flag) and leave the source
unchanged. Each clause gives the encoding and says that exec completes, from every state, in
exactly the state written: whatever is not written there is unchanged. Opcode bytes, and flag
effects the cited rules mark as general knowledge, are taken as those rules state them (logs 10
and 12). -/
def Obligations.TransfersCopyRegister : Prop :=
  ∀ (s : State),
  Effect s [0xAA#8] .tax { s with x := s.a, flags := setZN s.a s.flags } ∧
  Effect s [0xA8#8] .tay { s with y := s.a, flags := setZN s.a s.flags } ∧
  Effect s [0x8A#8] .txa { s with a := s.x, flags := setZN s.x s.flags } ∧
  Effect s [0x98#8] .tya { s with a := s.y, flags := setZN s.y s.flags } ∧
  Effect s [0xBA#8] .tsx { s with x := s.sp, flags := setZN s.sp s.flags } ∧
  Effect s [0x9A#8] .txs { s with sp := s.x }

/-- ADC and SBC in all their modes (R140, R141).
ADC and SBC put Adc and Sbc of A and the operand of each of their modes into A and the flags; D
selects binary or decimal. Each clause gives the encoding and says that exec completes, from
every state, in exactly the state written: whatever is not written there is unchanged. Opcode
bytes, and flag effects the cited rules mark as general knowledge, are taken as those rules
state them (logs 10 and 12). -/
def Obligations.AddAndSubtractWithCarry : Prop :=
  ∀ (s : State) (b : Byte) (w : Addr),
  Effect s [0x69#8, b] (.adcImm b)
    { s with a := (adc s.a b s.flags).1, flags := (adc s.a b s.flags).2 } ∧
  Effect s [0x65#8, b] (.adcZp b)
    { s with
      a := (adc s.a (memOperand (.zp b) s) s.flags).1
      flags := (adc s.a (memOperand (.zp b) s) s.flags).2 } ∧
  Effect s [0x75#8, b] (.adcZpX b)
    { s with
      a := (adc s.a (memOperand (.zpX b) s) s.flags).1
      flags := (adc s.a (memOperand (.zpX b) s) s.flags).2 } ∧
  Effect s [0x6D#8, loByte w, hiByte w] (.adcAbs w)
    { s with
      a := (adc s.a (memOperand (.abs w) s) s.flags).1
      flags := (adc s.a (memOperand (.abs w) s) s.flags).2 } ∧
  Effect s [0x7D#8, loByte w, hiByte w] (.adcAbsX w)
    { s with
      a := (adc s.a (memOperand (.absX w) s) s.flags).1
      flags := (adc s.a (memOperand (.absX w) s) s.flags).2 } ∧
  Effect s [0x79#8, loByte w, hiByte w] (.adcAbsY w)
    { s with
      a := (adc s.a (memOperand (.absY w) s) s.flags).1
      flags := (adc s.a (memOperand (.absY w) s) s.flags).2 } ∧
  Effect s [0x61#8, b] (.adcIndX b)
    { s with
      a := (adc s.a (memOperand (.indX b) s) s.flags).1
      flags := (adc s.a (memOperand (.indX b) s) s.flags).2 } ∧
  Effect s [0x71#8, b] (.adcIndY b)
    { s with
      a := (adc s.a (memOperand (.indY b) s) s.flags).1
      flags := (adc s.a (memOperand (.indY b) s) s.flags).2 } ∧
  Effect s [0xE9#8, b] (.sbcImm b)
    { s with a := (sbc s.a b s.flags).1, flags := (sbc s.a b s.flags).2 } ∧
  Effect s [0xE5#8, b] (.sbcZp b)
    { s with
      a := (sbc s.a (memOperand (.zp b) s) s.flags).1
      flags := (sbc s.a (memOperand (.zp b) s) s.flags).2 } ∧
  Effect s [0xF5#8, b] (.sbcZpX b)
    { s with
      a := (sbc s.a (memOperand (.zpX b) s) s.flags).1
      flags := (sbc s.a (memOperand (.zpX b) s) s.flags).2 } ∧
  Effect s [0xED#8, loByte w, hiByte w] (.sbcAbs w)
    { s with
      a := (sbc s.a (memOperand (.abs w) s) s.flags).1
      flags := (sbc s.a (memOperand (.abs w) s) s.flags).2 } ∧
  Effect s [0xFD#8, loByte w, hiByte w] (.sbcAbsX w)
    { s with
      a := (sbc s.a (memOperand (.absX w) s) s.flags).1
      flags := (sbc s.a (memOperand (.absX w) s) s.flags).2 } ∧
  Effect s [0xF9#8, loByte w, hiByte w] (.sbcAbsY w)
    { s with
      a := (sbc s.a (memOperand (.absY w) s) s.flags).1
      flags := (sbc s.a (memOperand (.absY w) s) s.flags).2 } ∧
  Effect s [0xE1#8, b] (.sbcIndX b)
    { s with
      a := (sbc s.a (memOperand (.indX b) s) s.flags).1
      flags := (sbc s.a (memOperand (.indX b) s) s.flags).2 } ∧
  Effect s [0xF1#8, b] (.sbcIndY b)
    { s with
      a := (sbc s.a (memOperand (.indY b) s) s.flags).1
      flags := (sbc s.a (memOperand (.indY b) s) s.flags).2 }

/-- AND, ORA, EOR in all their modes (R142, R143, R144).
AND, ORA and EOR combine A with the operand of each of their modes and set Z and N. Each clause
gives the encoding and says that exec completes, from every state, in exactly the state written:
whatever is not written there is unchanged. Opcode bytes, and flag effects the cited rules mark
as general knowledge, are taken as those rules state them (logs 10 and 12). -/
def Obligations.LogicOnAccumulator : Prop :=
  ∀ (s : State) (b : Byte) (w : Addr),
  Effect s [0x29#8, b] (.andImm b) { s with a := s.a &&& b, flags := setZN (s.a &&& b) s.flags } ∧
  Effect s [0x25#8, b] (.andZp b)
    { s with
      a := s.a &&& (memOperand (.zp b) s)
      flags := setZN (s.a &&& (memOperand (.zp b) s)) s.flags } ∧
  Effect s [0x35#8, b] (.andZpX b)
    { s with
      a := s.a &&& (memOperand (.zpX b) s)
      flags := setZN (s.a &&& (memOperand (.zpX b) s)) s.flags } ∧
  Effect s [0x2D#8, loByte w, hiByte w] (.andAbs w)
    { s with
      a := s.a &&& (memOperand (.abs w) s)
      flags := setZN (s.a &&& (memOperand (.abs w) s)) s.flags } ∧
  Effect s [0x3D#8, loByte w, hiByte w] (.andAbsX w)
    { s with
      a := s.a &&& (memOperand (.absX w) s)
      flags := setZN (s.a &&& (memOperand (.absX w) s)) s.flags } ∧
  Effect s [0x39#8, loByte w, hiByte w] (.andAbsY w)
    { s with
      a := s.a &&& (memOperand (.absY w) s)
      flags := setZN (s.a &&& (memOperand (.absY w) s)) s.flags } ∧
  Effect s [0x21#8, b] (.andIndX b)
    { s with
      a := s.a &&& (memOperand (.indX b) s)
      flags := setZN (s.a &&& (memOperand (.indX b) s)) s.flags } ∧
  Effect s [0x31#8, b] (.andIndY b)
    { s with
      a := s.a &&& (memOperand (.indY b) s)
      flags := setZN (s.a &&& (memOperand (.indY b) s)) s.flags } ∧
  Effect s [0x09#8, b] (.oraImm b) { s with a := s.a ||| b, flags := setZN (s.a ||| b) s.flags } ∧
  Effect s [0x05#8, b] (.oraZp b)
    { s with
      a := s.a ||| (memOperand (.zp b) s)
      flags := setZN (s.a ||| (memOperand (.zp b) s)) s.flags } ∧
  Effect s [0x15#8, b] (.oraZpX b)
    { s with
      a := s.a ||| (memOperand (.zpX b) s)
      flags := setZN (s.a ||| (memOperand (.zpX b) s)) s.flags } ∧
  Effect s [0x0D#8, loByte w, hiByte w] (.oraAbs w)
    { s with
      a := s.a ||| (memOperand (.abs w) s)
      flags := setZN (s.a ||| (memOperand (.abs w) s)) s.flags } ∧
  Effect s [0x1D#8, loByte w, hiByte w] (.oraAbsX w)
    { s with
      a := s.a ||| (memOperand (.absX w) s)
      flags := setZN (s.a ||| (memOperand (.absX w) s)) s.flags } ∧
  Effect s [0x19#8, loByte w, hiByte w] (.oraAbsY w)
    { s with
      a := s.a ||| (memOperand (.absY w) s)
      flags := setZN (s.a ||| (memOperand (.absY w) s)) s.flags } ∧
  Effect s [0x01#8, b] (.oraIndX b)
    { s with
      a := s.a ||| (memOperand (.indX b) s)
      flags := setZN (s.a ||| (memOperand (.indX b) s)) s.flags } ∧
  Effect s [0x11#8, b] (.oraIndY b)
    { s with
      a := s.a ||| (memOperand (.indY b) s)
      flags := setZN (s.a ||| (memOperand (.indY b) s)) s.flags } ∧
  Effect s [0x49#8, b] (.eorImm b) { s with a := s.a ^^^ b, flags := setZN (s.a ^^^ b) s.flags } ∧
  Effect s [0x45#8, b] (.eorZp b)
    { s with
      a := s.a ^^^ (memOperand (.zp b) s)
      flags := setZN (s.a ^^^ (memOperand (.zp b) s)) s.flags } ∧
  Effect s [0x55#8, b] (.eorZpX b)
    { s with
      a := s.a ^^^ (memOperand (.zpX b) s)
      flags := setZN (s.a ^^^ (memOperand (.zpX b) s)) s.flags } ∧
  Effect s [0x4D#8, loByte w, hiByte w] (.eorAbs w)
    { s with
      a := s.a ^^^ (memOperand (.abs w) s)
      flags := setZN (s.a ^^^ (memOperand (.abs w) s)) s.flags } ∧
  Effect s [0x5D#8, loByte w, hiByte w] (.eorAbsX w)
    { s with
      a := s.a ^^^ (memOperand (.absX w) s)
      flags := setZN (s.a ^^^ (memOperand (.absX w) s)) s.flags } ∧
  Effect s [0x59#8, loByte w, hiByte w] (.eorAbsY w)
    { s with
      a := s.a ^^^ (memOperand (.absY w) s)
      flags := setZN (s.a ^^^ (memOperand (.absY w) s)) s.flags } ∧
  Effect s [0x41#8, b] (.eorIndX b)
    { s with
      a := s.a ^^^ (memOperand (.indX b) s)
      flags := setZN (s.a ^^^ (memOperand (.indX b) s)) s.flags } ∧
  Effect s [0x51#8, b] (.eorIndY b)
    { s with
      a := s.a ^^^ (memOperand (.indY b) s)
      flags := setZN (s.a ^^^ (memOperand (.indY b) s)) s.flags }

/-- CMP, CPX, CPY and BIT in all their modes (R145, R146, R147, R148).
CMP, CPX and CPY compare A, X, Y with the operand of each of their modes, BIT tests A against
memory; they write flags and nothing else. Each clause gives the encoding and says that exec
completes, from every state, in exactly the state written: whatever is not written there is
unchanged. Opcode bytes, and flag effects the cited rules mark as general knowledge, are taken
as those rules state them (logs 10 and 12). -/
def Obligations.ComparesAndBitTestSetFlags : Prop :=
  ∀ (s : State) (b : Byte) (w : Addr),
  Effect s [0xC9#8, b] (.cmpImm b) { s with flags := compareReg s.a b s.flags } ∧
  Effect s [0xC5#8, b] (.cmpZp b)
    { s with flags := compareReg s.a (memOperand (.zp b) s) s.flags } ∧
  Effect s [0xD5#8, b] (.cmpZpX b)
    { s with flags := compareReg s.a (memOperand (.zpX b) s) s.flags } ∧
  Effect s [0xCD#8, loByte w, hiByte w] (.cmpAbs w)
    { s with flags := compareReg s.a (memOperand (.abs w) s) s.flags } ∧
  Effect s [0xDD#8, loByte w, hiByte w] (.cmpAbsX w)
    { s with flags := compareReg s.a (memOperand (.absX w) s) s.flags } ∧
  Effect s [0xD9#8, loByte w, hiByte w] (.cmpAbsY w)
    { s with flags := compareReg s.a (memOperand (.absY w) s) s.flags } ∧
  Effect s [0xC1#8, b] (.cmpIndX b)
    { s with flags := compareReg s.a (memOperand (.indX b) s) s.flags } ∧
  Effect s [0xD1#8, b] (.cmpIndY b)
    { s with flags := compareReg s.a (memOperand (.indY b) s) s.flags } ∧
  Effect s [0xE0#8, b] (.cpxImm b) { s with flags := compareReg s.x b s.flags } ∧
  Effect s [0xE4#8, b] (.cpxZp b)
    { s with flags := compareReg s.x (memOperand (.zp b) s) s.flags } ∧
  Effect s [0xEC#8, loByte w, hiByte w] (.cpxAbs w)
    { s with flags := compareReg s.x (memOperand (.abs w) s) s.flags } ∧
  Effect s [0xC0#8, b] (.cpyImm b) { s with flags := compareReg s.y b s.flags } ∧
  Effect s [0xC4#8, b] (.cpyZp b)
    { s with flags := compareReg s.y (memOperand (.zp b) s) s.flags } ∧
  Effect s [0xCC#8, loByte w, hiByte w] (.cpyAbs w)
    { s with flags := compareReg s.y (memOperand (.abs w) s) s.flags } ∧
  Effect s [0x24#8, b] (.bitZp b) { s with flags := bitTest s.a (memOperand (.zp b) s) s.flags } ∧
  Effect s [0x2C#8, loByte w, hiByte w] (.bitAbs w)
    { s with flags := bitTest s.a (memOperand (.abs w) s) s.flags }

/-- INC, DEC on memory in all their modes, INX, INY, DEX, DEY (R149, R150, R151, R152, R153,
R154).
INC and DEC replace the cell at the effective address of each of their modes by Inc or Dec of
it, INX, INY, DEX, DEY the register; Z and N follow the new value. Each clause gives the
encoding and says that exec completes, from every state, in exactly the state written: whatever
is not written there is unchanged. Opcode bytes, and flag effects the cited rules mark as
general knowledge, are taken as those rules state them (logs 10 and 12). -/
def Obligations.IncrementsAndDecrements : Prop :=
  ∀ (s : State) (b : Byte) (w : Addr),
  Effect s [0xE6#8, b] (.incZp b)
    { writeByte s (ea (.zp b) s) (inc (memOperand (.zp b) s) s.flags).1 with
    flags := (inc (memOperand (.zp b) s) s.flags).2 } ∧
  Effect s [0xF6#8, b] (.incZpX b)
    { writeByte s (ea (.zpX b) s) (inc (memOperand (.zpX b) s) s.flags).1 with
    flags := (inc (memOperand (.zpX b) s) s.flags).2 } ∧
  Effect s [0xEE#8, loByte w, hiByte w] (.incAbs w)
    { writeByte s (ea (.abs w) s) (inc (memOperand (.abs w) s) s.flags).1 with
    flags := (inc (memOperand (.abs w) s) s.flags).2 } ∧
  Effect s [0xFE#8, loByte w, hiByte w] (.incAbsX w)
    { writeByte s (ea (.absX w) s) (inc (memOperand (.absX w) s) s.flags).1 with
    flags := (inc (memOperand (.absX w) s) s.flags).2 } ∧
  Effect s [0xC6#8, b] (.decZp b)
    { writeByte s (ea (.zp b) s) (dec (memOperand (.zp b) s) s.flags).1 with
    flags := (dec (memOperand (.zp b) s) s.flags).2 } ∧
  Effect s [0xD6#8, b] (.decZpX b)
    { writeByte s (ea (.zpX b) s) (dec (memOperand (.zpX b) s) s.flags).1 with
    flags := (dec (memOperand (.zpX b) s) s.flags).2 } ∧
  Effect s [0xCE#8, loByte w, hiByte w] (.decAbs w)
    { writeByte s (ea (.abs w) s) (dec (memOperand (.abs w) s) s.flags).1 with
    flags := (dec (memOperand (.abs w) s) s.flags).2 } ∧
  Effect s [0xDE#8, loByte w, hiByte w] (.decAbsX w)
    { writeByte s (ea (.absX w) s) (dec (memOperand (.absX w) s) s.flags).1 with
    flags := (dec (memOperand (.absX w) s) s.flags).2 } ∧
  Effect s [0xE8#8] .inx { s with x := (inc s.x s.flags).1, flags := (inc s.x s.flags).2 } ∧
  Effect s [0xC8#8] .iny { s with y := (inc s.y s.flags).1, flags := (inc s.y s.flags).2 } ∧
  Effect s [0xCA#8] .dex { s with x := (dec s.x s.flags).1, flags := (dec s.x s.flags).2 } ∧
  Effect s [0x88#8] .dey { s with y := (dec s.y s.flags).1, flags := (dec s.y s.flags).2 }

/-- ASL, LSR, ROL, ROR on A and in all their memory modes (R160, R161, R162, R163).
The accumulator form replaces A, the memory form the cell at the effective address, by the
primitive of the old value, and the flags become the primitive's. Each clause gives the encoding
and says that exec completes, from every state, in exactly the state written: whatever is not
written there is unchanged. Opcode bytes, and flag effects the cited rules mark as general
knowledge, are taken as those rules state them (logs 10 and 12). -/
def Obligations.ShiftsOnAccumulatorOrMemory : Prop :=
  ∀ (s : State) (b : Byte) (w : Addr),
  Effect s [0x0A#8] .aslAcc { s with a := (asl s.a s.flags).1, flags := (asl s.a s.flags).2 } ∧
  Effect s [0x06#8, b] (.aslZp b)
    { writeByte s (ea (.zp b) s) (asl (memOperand (.zp b) s) s.flags).1 with
    flags := (asl (memOperand (.zp b) s) s.flags).2 } ∧
  Effect s [0x16#8, b] (.aslZpX b)
    { writeByte s (ea (.zpX b) s) (asl (memOperand (.zpX b) s) s.flags).1 with
    flags := (asl (memOperand (.zpX b) s) s.flags).2 } ∧
  Effect s [0x0E#8, loByte w, hiByte w] (.aslAbs w)
    { writeByte s (ea (.abs w) s) (asl (memOperand (.abs w) s) s.flags).1 with
    flags := (asl (memOperand (.abs w) s) s.flags).2 } ∧
  Effect s [0x1E#8, loByte w, hiByte w] (.aslAbsX w)
    { writeByte s (ea (.absX w) s) (asl (memOperand (.absX w) s) s.flags).1 with
    flags := (asl (memOperand (.absX w) s) s.flags).2 } ∧
  Effect s [0x4A#8] .lsrAcc { s with a := (lsr s.a s.flags).1, flags := (lsr s.a s.flags).2 } ∧
  Effect s [0x46#8, b] (.lsrZp b)
    { writeByte s (ea (.zp b) s) (lsr (memOperand (.zp b) s) s.flags).1 with
    flags := (lsr (memOperand (.zp b) s) s.flags).2 } ∧
  Effect s [0x56#8, b] (.lsrZpX b)
    { writeByte s (ea (.zpX b) s) (lsr (memOperand (.zpX b) s) s.flags).1 with
    flags := (lsr (memOperand (.zpX b) s) s.flags).2 } ∧
  Effect s [0x4E#8, loByte w, hiByte w] (.lsrAbs w)
    { writeByte s (ea (.abs w) s) (lsr (memOperand (.abs w) s) s.flags).1 with
    flags := (lsr (memOperand (.abs w) s) s.flags).2 } ∧
  Effect s [0x5E#8, loByte w, hiByte w] (.lsrAbsX w)
    { writeByte s (ea (.absX w) s) (lsr (memOperand (.absX w) s) s.flags).1 with
    flags := (lsr (memOperand (.absX w) s) s.flags).2 } ∧
  Effect s [0x2A#8] .rolAcc { s with a := (rol s.a s.flags).1, flags := (rol s.a s.flags).2 } ∧
  Effect s [0x26#8, b] (.rolZp b)
    { writeByte s (ea (.zp b) s) (rol (memOperand (.zp b) s) s.flags).1 with
    flags := (rol (memOperand (.zp b) s) s.flags).2 } ∧
  Effect s [0x36#8, b] (.rolZpX b)
    { writeByte s (ea (.zpX b) s) (rol (memOperand (.zpX b) s) s.flags).1 with
    flags := (rol (memOperand (.zpX b) s) s.flags).2 } ∧
  Effect s [0x2E#8, loByte w, hiByte w] (.rolAbs w)
    { writeByte s (ea (.abs w) s) (rol (memOperand (.abs w) s) s.flags).1 with
    flags := (rol (memOperand (.abs w) s) s.flags).2 } ∧
  Effect s [0x3E#8, loByte w, hiByte w] (.rolAbsX w)
    { writeByte s (ea (.absX w) s) (rol (memOperand (.absX w) s) s.flags).1 with
    flags := (rol (memOperand (.absX w) s) s.flags).2 } ∧
  Effect s [0x6A#8] .rorAcc { s with a := (ror s.a s.flags).1, flags := (ror s.a s.flags).2 } ∧
  Effect s [0x66#8, b] (.rorZp b)
    { writeByte s (ea (.zp b) s) (ror (memOperand (.zp b) s) s.flags).1 with
    flags := (ror (memOperand (.zp b) s) s.flags).2 } ∧
  Effect s [0x76#8, b] (.rorZpX b)
    { writeByte s (ea (.zpX b) s) (ror (memOperand (.zpX b) s) s.flags).1 with
    flags := (ror (memOperand (.zpX b) s) s.flags).2 } ∧
  Effect s [0x6E#8, loByte w, hiByte w] (.rorAbs w)
    { writeByte s (ea (.abs w) s) (ror (memOperand (.abs w) s) s.flags).1 with
    flags := (ror (memOperand (.abs w) s) s.flags).2 } ∧
  Effect s [0x7E#8, loByte w, hiByte w] (.rorAbsX w)
    { writeByte s (ea (.absX w) s) (ror (memOperand (.absX w) s) s.flags).1 with
    flags := (ror (memOperand (.absX w) s) s.flags).2 }

/-- The eight conditional branches (R170, R171, R172, R173, R174, R175, R176, R177, R178).
Each branch sets PC to BranchTarget of its offset byte if its condition on one flag holds, and
otherwise leaves PC where the fetch left it, past the offset byte; nothing else changes. Each
clause gives the encoding and says that exec completes, from every state, in exactly the state
written: whatever is not written there is unchanged. Opcode bytes, and flag effects the cited
rules mark as general knowledge, are taken as those rules state them (logs 10 and 12). -/
def Obligations.BranchesOnOneFlag : Prop :=
  ∀ (s : State) (b : Byte),
  Effect s [0x90#8, b] (.bcc b)
    (if s.flags.c = false then { s with pc := branchTarget b s } else s) ∧
  Effect s [0xB0#8, b] (.bcs b)
    (if s.flags.c = true then { s with pc := branchTarget b s } else s) ∧
  Effect s [0xF0#8, b] (.beq b)
    (if s.flags.z = true then { s with pc := branchTarget b s } else s) ∧
  Effect s [0xD0#8, b] (.bne b)
    (if s.flags.z = false then { s with pc := branchTarget b s } else s) ∧
  Effect s [0x30#8, b] (.bmi b)
    (if s.flags.n = true then { s with pc := branchTarget b s } else s) ∧
  Effect s [0x10#8, b] (.bpl b)
    (if s.flags.n = false then { s with pc := branchTarget b s } else s) ∧
  Effect s [0x50#8, b] (.bvc b)
    (if s.flags.v = false then { s with pc := branchTarget b s } else s) ∧
  Effect s [0x70#8, b] (.bvs b)
    (if s.flags.v = true then { s with pc := branchTarget b s } else s)

/-- JMP absolute and indirect (R179).
JMP absolute sets PC to the operand word, JMP (indirect) to the word read at it; nothing else
changes. Each clause gives the encoding and says that exec completes, from every state, in
exactly the state written: whatever is not written there is unchanged. Opcode bytes, and flag
effects the cited rules mark as general knowledge, are taken as those rules state them (logs 10
and 12). -/
def Obligations.JumpsSetPc : Prop :=
  ∀ (s : State) (w : Addr),
  Effect s [0x4C#8, loByte w, hiByte w] (.jmpAbs w) { s with pc := w } ∧
  Effect s [0x6C#8, loByte w, hiByte w] (.jmpInd w) { s with pc := readWord s w }

/-- JSR and RTS (45_branch_jump.md section Call and return, 92_eei_decisions.md D5).
JSR pushes the address before the one the fetch left PC at, that of its own last byte, high byte
then low byte, and jumps to its operand word; RTS pops a word, low byte then high byte, and
jumps to it plus 1. The address pushed and the increment are the spec's decision D5 (log 8).
Each clause gives the encoding and says that exec completes, from every state, in exactly the
state written: whatever is not written there is unchanged. Opcode bytes, and flag effects the
cited rules mark as general knowledge, are taken as those rules state them (logs 10 and 12). -/
def Obligations.CallAndReturnUseStack : Prop :=
  ∀ (s : State) (w : Addr),
  Effect s [0x20#8, loByte w, hiByte w] (.jsr w)
    { push (loByte (s.pc - 1#16)) (push (hiByte (s.pc - 1#16)) s) with pc := w } ∧
  Effect s [0x60#8] .rts { s with
    sp := s.sp + 2#8
    pc := joinBytes (readByte s (stackAddr (s.sp + 2#8))) (readByte s (stackAddr (s.sp + 1#8)))
      + 1#16 }

/-- PHA, PLA, PHP, PLP (R190, R191, R192, R193).
PHA pushes A, PHP the packed status, no flag written; PLA pops A and sets Z and N, PLP pops all
seven flags. Each clause gives the encoding and says that exec completes, from every state, in
exactly the state written: whatever is not written there is unchanged. Opcode bytes, and flag
effects the cited rules mark as general knowledge, are taken as those rules state them (logs 10
and 12). -/
def Obligations.PushesAndPulls : Prop :=
  ∀ (s : State),
  Effect s [0x48#8] .pha (push s.a s) ∧
  Effect s [0x68#8] .pla { (pop s).2 with a := (pop s).1, flags := setZN (pop s).1 s.flags } ∧
  Effect s [0x08#8] .php (push (encodeStatus s.flags) s) ∧
  Effect s [0x28#8] .plp { (pop s).2 with flags := decodeStatus (pop s).1 }

/-- CLC, SEC, CLI, SEI, CLD, SED, CLV and the legal NOP (R194, R195, R196, R197, R198, R199,
R200, R201).
Each flag instruction writes one flag and nothing else; NOP changes nothing but PC in the fetch.
Each clause gives the encoding and says that exec completes, from every state, in exactly the
state written: whatever is not written there is unchanged. Opcode bytes, and flag effects the
cited rules mark as general knowledge, are taken as those rules state them (logs 10 and 12). -/
def Obligations.FlagInstructionsWriteOneFlag : Prop :=
  ∀ (s : State),
  Effect s [0x18#8] .clc { s with flags := { s.flags with c := false } } ∧
  Effect s [0x38#8] .sec { s with flags := { s.flags with c := true } } ∧
  Effect s [0x58#8] .cli { s with flags := { s.flags with i := false } } ∧
  Effect s [0x78#8] .sei { s with flags := { s.flags with i := true } } ∧
  Effect s [0xD8#8] .cld { s with flags := { s.flags with d := false } } ∧
  Effect s [0xF8#8] .sed { s with flags := { s.flags with d := true } } ∧
  Effect s [0xB8#8] .clv { s with flags := { s.flags with v := false } } ∧
  Effect s [0xEA#8] .nop s

/-- BRK takes the trap; RTI returns from it (46_stack_flags_system.md section Software interrupt
and return, 60_exceptions.md section 5, 92_eei_decisions.md D4, 92_eei_decisions.md D15).
BRK, with PC at its address + 1, pushes the high then the low byte of PC + 1 and then Encode()
of the flags before the trap, sets B and I and no other flag, and loads PC from the word at
0xFFFE after the pushes. RTI pops the status into all seven flags, then PC low byte and high
byte, adding nothing. Decisions D4 and D15 of the spec (logs 7 and 8). Each clause gives the
encoding and says that exec completes, from every state, in exactly the state written: whatever
is not written there is unchanged. Opcode bytes, and flag effects the cited rules mark as
general knowledge, are taken as those rules state them (logs 10 and 12). -/
def Obligations.BreakTrapsAndRtiReturns : Prop :=
  ∀ (s t : State),
  t = push (encodeStatus s.flags) (push (loByte (s.pc + 1#16)) (push (hiByte (s.pc + 1#16)) s)) →
  Effect s [0x00#8] .brk { t with
    flags := { s.flags with b := true, i := true }, pc := readWord t 0xFFFE#16 } ∧
  Effect s [0x40#8] .rti { s with
    flags := decodeStatus (readByte s (stackAddr (s.sp + 1#8)))
    sp := s.sp + 3#8
    pc := joinBytes (readByte s (stackAddr (s.sp + 3#8))) (readByte s (stackAddr (s.sp + 2#8))) }

/-- LAX and SAX in all their modes (R210, R211).
LAX loads the byte at the effective address, formed with the old X, into A and X and sets Z and
N; SAX stores A AND X there and writes no register and no flag. Each clause gives the encoding
and says that exec completes, from every state, in exactly the state written: whatever is not
written there is unchanged. Opcode bytes, and flag effects the cited rules mark as general
knowledge, are taken as those rules state them (logs 10 and 12). -/
def Obligations.IllegalLoadAndStore : Prop :=
  ∀ (s : State) (b : Byte) (w : Addr),
  Effect s [0xA7#8, b] (.laxZp b)
    { s with
      a := (memOperand (.zp b) s)
      x := (memOperand (.zp b) s)
      flags := setZN (memOperand (.zp b) s) s.flags } ∧
  Effect s [0xB7#8, b] (.laxZpY b)
    { s with
      a := (memOperand (.zpY b) s)
      x := (memOperand (.zpY b) s)
      flags := setZN (memOperand (.zpY b) s) s.flags } ∧
  Effect s [0xAF#8, loByte w, hiByte w] (.laxAbs w)
    { s with
      a := (memOperand (.abs w) s)
      x := (memOperand (.abs w) s)
      flags := setZN (memOperand (.abs w) s) s.flags } ∧
  Effect s [0xBF#8, loByte w, hiByte w] (.laxAbsY w)
    { s with
      a := (memOperand (.absY w) s)
      x := (memOperand (.absY w) s)
      flags := setZN (memOperand (.absY w) s) s.flags } ∧
  Effect s [0xA3#8, b] (.laxIndX b)
    { s with
      a := (memOperand (.indX b) s)
      x := (memOperand (.indX b) s)
      flags := setZN (memOperand (.indX b) s) s.flags } ∧
  Effect s [0xB3#8, b] (.laxIndY b)
    { s with
      a := (memOperand (.indY b) s)
      x := (memOperand (.indY b) s)
      flags := setZN (memOperand (.indY b) s) s.flags } ∧
  Effect s [0x87#8, b] (.saxZp b) (writeByte s (ea (.zp b) s) (s.a &&& s.x)) ∧
  Effect s [0x97#8, b] (.saxZpY b) (writeByte s (ea (.zpY b) s) (s.a &&& s.x)) ∧
  Effect s [0x8F#8, loByte w, hiByte w] (.saxAbs w) (writeByte s (ea (.abs w) s) (s.a &&& s.x)) ∧
  Effect s [0x83#8, b] (.saxIndX b) (writeByte s (ea (.indX b) s) (s.a &&& s.x))

/-- SLO, RLA, SRE, RRA, DCP, ISC in all seven modes (R212, R213, R214, R215, R216, R217, R223).
Each replaces the cell at the effective address by the memory primitive (Asl, Rol, Lsr, Ror,
Dec, Inc) of it and folds the new byte into A with the accumulator primitive (Ora, And, Eor,
Adc, Compare, Sbc), whose flags start from those the memory primitive left; DCP leaves A. Each
clause gives the encoding and says that exec completes, from every state, in exactly the state
written: whatever is not written there is unchanged. Opcode bytes, and flag effects the cited
rules mark as general knowledge, are taken as those rules state them (logs 10 and 12). -/
def Obligations.IllegalCombinations : Prop :=
  ∀ (s : State) (b : Byte) (w : Addr),
  let combined := fun (f : Unary) (fold : Binary) (m : MemMode) (s : State) =>
    { writeByte s (ea m s) (f (memOperand m s) s.flags).1 with
      a := (fold s.a (f (memOperand m s) s.flags).1 (f (memOperand m s) s.flags).2).1
      flags := (fold s.a (f (memOperand m s) s.flags).1 (f (memOperand m s) s.flags).2).2 }
  Effect s [0x07#8, b] (.sloZp b) (combined asl oraA (.zp b) s) ∧
  Effect s [0x17#8, b] (.sloZpX b) (combined asl oraA (.zpX b) s) ∧
  Effect s [0x0F#8, loByte w, hiByte w] (.sloAbs w) (combined asl oraA (.abs w) s) ∧
  Effect s [0x1F#8, loByte w, hiByte w] (.sloAbsX w) (combined asl oraA (.absX w) s) ∧
  Effect s [0x1B#8, loByte w, hiByte w] (.sloAbsY w) (combined asl oraA (.absY w) s) ∧
  Effect s [0x03#8, b] (.sloIndX b) (combined asl oraA (.indX b) s) ∧
  Effect s [0x13#8, b] (.sloIndY b) (combined asl oraA (.indY b) s) ∧
  Effect s [0x27#8, b] (.rlaZp b) (combined rol andA (.zp b) s) ∧
  Effect s [0x37#8, b] (.rlaZpX b) (combined rol andA (.zpX b) s) ∧
  Effect s [0x2F#8, loByte w, hiByte w] (.rlaAbs w) (combined rol andA (.abs w) s) ∧
  Effect s [0x3F#8, loByte w, hiByte w] (.rlaAbsX w) (combined rol andA (.absX w) s) ∧
  Effect s [0x3B#8, loByte w, hiByte w] (.rlaAbsY w) (combined rol andA (.absY w) s) ∧
  Effect s [0x23#8, b] (.rlaIndX b) (combined rol andA (.indX b) s) ∧
  Effect s [0x33#8, b] (.rlaIndY b) (combined rol andA (.indY b) s) ∧
  Effect s [0x47#8, b] (.sreZp b) (combined lsr eorA (.zp b) s) ∧
  Effect s [0x57#8, b] (.sreZpX b) (combined lsr eorA (.zpX b) s) ∧
  Effect s [0x4F#8, loByte w, hiByte w] (.sreAbs w) (combined lsr eorA (.abs w) s) ∧
  Effect s [0x5F#8, loByte w, hiByte w] (.sreAbsX w) (combined lsr eorA (.absX w) s) ∧
  Effect s [0x5B#8, loByte w, hiByte w] (.sreAbsY w) (combined lsr eorA (.absY w) s) ∧
  Effect s [0x43#8, b] (.sreIndX b) (combined lsr eorA (.indX b) s) ∧
  Effect s [0x53#8, b] (.sreIndY b) (combined lsr eorA (.indY b) s) ∧
  Effect s [0x67#8, b] (.rraZp b) (combined ror adc (.zp b) s) ∧
  Effect s [0x77#8, b] (.rraZpX b) (combined ror adc (.zpX b) s) ∧
  Effect s [0x6F#8, loByte w, hiByte w] (.rraAbs w) (combined ror adc (.abs w) s) ∧
  Effect s [0x7F#8, loByte w, hiByte w] (.rraAbsX w) (combined ror adc (.absX w) s) ∧
  Effect s [0x7B#8, loByte w, hiByte w] (.rraAbsY w) (combined ror adc (.absY w) s) ∧
  Effect s [0x63#8, b] (.rraIndX b) (combined ror adc (.indX b) s) ∧
  Effect s [0x73#8, b] (.rraIndY b) (combined ror adc (.indY b) s) ∧
  Effect s [0xC7#8, b] (.dcpZp b)
    { writeByte s (ea (.zp b) s) (dec (memOperand (.zp b) s) s.flags).1 with
    flags := compareReg s.a (dec (memOperand (.zp b) s) s.flags).1
      (dec (memOperand (.zp b) s) s.flags).2 } ∧
  Effect s [0xD7#8, b] (.dcpZpX b)
    { writeByte s (ea (.zpX b) s) (dec (memOperand (.zpX b) s) s.flags).1 with
    flags := compareReg s.a (dec (memOperand (.zpX b) s) s.flags).1
      (dec (memOperand (.zpX b) s) s.flags).2 } ∧
  Effect s [0xCF#8, loByte w, hiByte w] (.dcpAbs w)
    { writeByte s (ea (.abs w) s) (dec (memOperand (.abs w) s) s.flags).1 with
    flags := compareReg s.a (dec (memOperand (.abs w) s) s.flags).1
      (dec (memOperand (.abs w) s) s.flags).2 } ∧
  Effect s [0xDF#8, loByte w, hiByte w] (.dcpAbsX w)
    { writeByte s (ea (.absX w) s) (dec (memOperand (.absX w) s) s.flags).1 with
    flags := compareReg s.a (dec (memOperand (.absX w) s) s.flags).1
      (dec (memOperand (.absX w) s) s.flags).2 } ∧
  Effect s [0xDB#8, loByte w, hiByte w] (.dcpAbsY w)
    { writeByte s (ea (.absY w) s) (dec (memOperand (.absY w) s) s.flags).1 with
    flags := compareReg s.a (dec (memOperand (.absY w) s) s.flags).1
      (dec (memOperand (.absY w) s) s.flags).2 } ∧
  Effect s [0xC3#8, b] (.dcpIndX b)
    { writeByte s (ea (.indX b) s) (dec (memOperand (.indX b) s) s.flags).1 with
    flags := compareReg s.a (dec (memOperand (.indX b) s) s.flags).1
      (dec (memOperand (.indX b) s) s.flags).2 } ∧
  Effect s [0xD3#8, b] (.dcpIndY b)
    { writeByte s (ea (.indY b) s) (dec (memOperand (.indY b) s) s.flags).1 with
    flags := compareReg s.a (dec (memOperand (.indY b) s) s.flags).1
      (dec (memOperand (.indY b) s) s.flags).2 } ∧
  Effect s [0xE7#8, b] (.iscZp b) (combined inc sbc (.zp b) s) ∧
  Effect s [0xF7#8, b] (.iscZpX b) (combined inc sbc (.zpX b) s) ∧
  Effect s [0xEF#8, loByte w, hiByte w] (.iscAbs w) (combined inc sbc (.abs w) s) ∧
  Effect s [0xFF#8, loByte w, hiByte w] (.iscAbsX w) (combined inc sbc (.absX w) s) ∧
  Effect s [0xFB#8, loByte w, hiByte w] (.iscAbsY w) (combined inc sbc (.absY w) s) ∧
  Effect s [0xE3#8, b] (.iscIndX b) (combined inc sbc (.indX b) s) ∧
  Effect s [0xF3#8, b] (.iscIndY b) (combined inc sbc (.indY b) s)

/-- The 27 illegal NOPs change nothing but PC in the fetch, and read what their mode reads
(47_illegal.md section NOP variants, 92_eei_decisions.md D8).
Each illegal NOP completes with the state unchanged beyond the fetch. Its accesses beyond its
own bytes are the one read of its effective address for the 16 memory-mode forms and none for
the six one-byte and the five immediate forms, said of each of the 27, which is the spec's
decision D8 (log 6). Each clause gives the encoding and says that exec completes, from every
state, in exactly the state written: whatever is not written there is unchanged. Opcode bytes,
and flag effects the cited rules mark as general knowledge, are taken as those rules state them
(logs 10 and 12). -/
def Obligations.IllegalNopsChangeNothing : Prop :=
  ∀ (s : State) (b : Byte) (w : Addr),
  dataAccesses .nopImp1A s = [] ∧
  dataAccesses .nopImp3A s = [] ∧
  dataAccesses .nopImp5A s = [] ∧
  dataAccesses .nopImp7A s = [] ∧
  dataAccesses .nopImpDA s = [] ∧
  dataAccesses .nopImpFA s = [] ∧
  dataAccesses (.nopImm80 b) s = [] ∧
  dataAccesses (.nopImm82 b) s = [] ∧
  dataAccesses (.nopImm89 b) s = [] ∧
  dataAccesses (.nopImmC2 b) s = [] ∧
  dataAccesses (.nopImmE2 b) s = [] ∧
  dataAccesses (.nopZp04 b) s = [.read (ea (.zp b) s)] ∧
  dataAccesses (.nopZp44 b) s = [.read (ea (.zp b) s)] ∧
  dataAccesses (.nopZp64 b) s = [.read (ea (.zp b) s)] ∧
  dataAccesses (.nopZpX14 b) s = [.read (ea (.zpX b) s)] ∧
  dataAccesses (.nopZpX34 b) s = [.read (ea (.zpX b) s)] ∧
  dataAccesses (.nopZpX54 b) s = [.read (ea (.zpX b) s)] ∧
  dataAccesses (.nopZpX74 b) s = [.read (ea (.zpX b) s)] ∧
  dataAccesses (.nopZpXD4 b) s = [.read (ea (.zpX b) s)] ∧
  dataAccesses (.nopZpXF4 b) s = [.read (ea (.zpX b) s)] ∧
  dataAccesses (.nopAbs0C w) s = [.read (ea (.abs w) s)] ∧
  dataAccesses (.nopAbsX1C w) s = [.read (ea (.absX w) s)] ∧
  dataAccesses (.nopAbsX3C w) s = [.read (ea (.absX w) s)] ∧
  dataAccesses (.nopAbsX5C w) s = [.read (ea (.absX w) s)] ∧
  dataAccesses (.nopAbsX7C w) s = [.read (ea (.absX w) s)] ∧
  dataAccesses (.nopAbsXDC w) s = [.read (ea (.absX w) s)] ∧
  dataAccesses (.nopAbsXFC w) s = [.read (ea (.absX w) s)] ∧
  Effect s [0x1A#8] .nopImp1A s ∧
  Effect s [0x3A#8] .nopImp3A s ∧
  Effect s [0x5A#8] .nopImp5A s ∧
  Effect s [0x7A#8] .nopImp7A s ∧
  Effect s [0xDA#8] .nopImpDA s ∧
  Effect s [0xFA#8] .nopImpFA s ∧
  Effect s [0x80#8, b] (.nopImm80 b) s ∧
  Effect s [0x82#8, b] (.nopImm82 b) s ∧
  Effect s [0x89#8, b] (.nopImm89 b) s ∧
  Effect s [0xC2#8, b] (.nopImmC2 b) s ∧
  Effect s [0xE2#8, b] (.nopImmE2 b) s ∧
  Effect s [0x04#8, b] (.nopZp04 b) s ∧
  Effect s [0x44#8, b] (.nopZp44 b) s ∧
  Effect s [0x64#8, b] (.nopZp64 b) s ∧
  Effect s [0x14#8, b] (.nopZpX14 b) s ∧
  Effect s [0x34#8, b] (.nopZpX34 b) s ∧
  Effect s [0x54#8, b] (.nopZpX54 b) s ∧
  Effect s [0x74#8, b] (.nopZpX74 b) s ∧
  Effect s [0xD4#8, b] (.nopZpXD4 b) s ∧
  Effect s [0xF4#8, b] (.nopZpXF4 b) s ∧
  Effect s [0x0C#8, loByte w, hiByte w] (.nopAbs0C w) s ∧
  Effect s [0x1C#8, loByte w, hiByte w] (.nopAbsX1C w) s ∧
  Effect s [0x3C#8, loByte w, hiByte w] (.nopAbsX3C w) s ∧
  Effect s [0x5C#8, loByte w, hiByte w] (.nopAbsX5C w) s ∧
  Effect s [0x7C#8, loByte w, hiByte w] (.nopAbsX7C w) s ∧
  Effect s [0xDC#8, loByte w, hiByte w] (.nopAbsXDC w) s ∧
  Effect s [0xFC#8, loByte w, hiByte w] (.nopAbsXFC w) s

/-- Decoding an encoded instruction gives it back, whatever follows it (30_encoding.md sections
1, 2 and 3).
For every instruction that is well formed under the configuration, with every operand, and any
bytes after it, decoding its encoding gives the instruction and those bytes; and its encoding is
as long as its format says. -/
def Obligations.EncodeThenDecode : Prop :=
  ∀ (allow : Bool) (i : Instr) (rest : List Byte), i.wf allow = true →
  decode allow (encode i ++ rest) = .instr i rest ∧ (encode i).length = i.length

/-- What decodes is the encoding of a well-formed instruction, and nothing else decodes to it
(30_encoding.md sections 1, 2 and 3).
If a list of bytes decodes to an instruction, the instruction is well formed under the
configuration and the list is its encoding followed by the rest. -/
def Obligations.DecodeThenEncode : Prop :=
  ∀ (allow : Bool) (bytes rest : List Byte) (i : Instr),
  decode allow bytes = .instr i rest → i.wf allow = true ∧ bytes = encode i ++ rest

/-- Some words of the spec decode to the instructions they stand for (30_encoding.md sections 3,
4 and 5).
Instructions written out byte by byte from the spec's examples, one or more of each family,
decode to the instruction they stand for; A7 is LAX zero page with illegal opcodes enabled and
unmapped without; 02 is unmapped both with them and without. -/
def Obligations.SpecWordsDecode : Prop :=
  decode false [0xA9#8, 0x80#8] = .instr (.ldaImm 0x80#8) [] ∧
  decode false [0xAD#8, 0x34#8, 0x12#8] = .instr (.ldaAbs 0x1234#16) [] ∧
  decode false [0xB6#8, 0x10#8] = .instr (.ldxZpY 0x10#8) [] ∧
  decode false [0x91#8, 0x20#8] = .instr (.staIndY 0x20#8) [] ∧
  decode false [0x69#8, 0x01#8] = .instr (.adcImm 0x01#8) [] ∧
  decode false [0x6A#8] = .instr .rorAcc [] ∧
  decode false [0xD0#8, 0xFB#8] = .instr (.bne 0xFB#8) [] ∧
  decode false [0x6C#8, 0x34#8, 0x12#8] = .instr (.jmpInd 0x1234#16) [] ∧
  decode false [0x20#8, 0x00#8, 0x07#8] = .instr (.jsr 0x0700#16) [] ∧
  decode false [0x00#8] = .instr .brk [] ∧
  decode false [0x40#8] = .instr .rti [] ∧
  decode false [0xF8#8] = .instr .sed [] ∧
  decode true [0xA7#8, 0x10#8] = .instr (.laxZp 0x10#8) [] ∧
  decode false [0xA7#8, 0x10#8] = .unimplementedOpcode 0xA7#8 ∧
  decode true [0x02#8] = .unimplementedOpcode 0x02#8 ∧
  decode false [0x02#8] = .unimplementedOpcode 0x02#8

/-- Which opcode bytes have a row in the active table: 151 legal, 79 illegal, 26 unmapped
(30_encoding.md sections 3 and 4, 92_eei_decisions.md D7).
An opcode byte has a row with illegal opcodes disabled exactly if it is one of the 151 legal
bytes, and with them enabled exactly if it is not one of the 26 unmapped bytes; the three lists,
as the spec prints them, have 151, 79 and 26 members, and each byte value stands in exactly one.
Which bytes they are is the spec's decision D7 (log 10). -/
def Obligations.ActiveTableBytes : Prop :=
  legalBytes.length = 151 ∧ illegalBytes.length = 79 ∧ unmappedBytes.length = 26 ∧
  ∀ op : Byte,
    ([legalBytes, illegalBytes, unmappedBytes].filter fun l => l.contains op.toNat).length = 1 ∧
    ((lookup false op).isSome = true ↔ op.toNat ∈ legalBytes) ∧
    ((lookup true op).isSome = true ↔ op.toNat ∉ unmappedBytes)

/-- A step faults exactly on an opcode byte without a row, with that byte, and is never refused
(60_exceptions.md section 2, 30_encoding.md section 4, 92_eei_decisions.md D7).
From every state: the step faults exactly when the byte at PC is one of the 26 unmapped bytes,
or one of the 79 illegal-table bytes with illegal opcodes disabled, and the fault carries that
byte; otherwise the step completes; no step is refused. Which bytes these are is the spec's
decision D7 (log 10). -/
def Obligations.StepFaultsOnlyOnUnmappedOpcode : Prop :=
  ∀ s : State,
  (((readByte s s.pc).toNat ∈ unmappedBytes ∨
      ((readByte s s.pc).toNat ∈ illegalBytes ∧ s.config.allowIllegalOps = false)) →
    step s = .fault (.unimplementedOpcode (readByte s s.pc))) ∧
  (¬((readByte s s.pc).toNat ∈ unmappedBytes ∨
      ((readByte s s.pc).toNat ∈ illegalBytes ∧ s.config.allowIllegalOps = false)) →
    ∃ t, step s = .next t)

/-- What a step request reports to the host, and the state it leaves (70_reset_and_hazards.md
section 3, 60_exceptions.md section 2, 92_eei_decisions.md D9).
A step request of any state reports done with the next state, or the unimplemented opcode with
the state in which PC has advanced by one and nothing else has changed (the spec's decision D9,
log 2). -/
def Obligations.HostStepReportsAndLeavesState : Prop :=
  ∀ s : State,
  (∃ t, step s = .next t ∧ hostStep s = some (.done, t)) ∨
  (∃ op, step s = .fault (.unimplementedOpcode op) ∧ op = readByte s s.pc ∧
    hostStep s = some (.unimplementedOpcode op, { s with pc := s.pc + 1#16 }))

/-- A step runs the instruction whose bytes stand at PC, with PC moved past them
(60_exceptions.md section 1, 40_addressing.md sections 1 and 7, 10_state.md section 3,
92_eei_decisions.md D3).
If the bytes at PC decode, under the configuration, to an instruction i, then i is well formed
and the step is exec of i in the state whose PC is past i's bytes modulo 65536 and which is
otherwise the same. That exec starts with PC past all the bytes is the model's own choice, read
from the spec by inference (log 3, DEDUCED); that all bytes are read before the instruction does
anything is the spec's decision D3, in R93 of 40_addressing.md (log 6). -/
def Obligations.StepRunsDecodedInstruction : Prop :=
  ∀ (s : State) (i : Instr) (rest : List Byte),
  decode s.config.allowIllegalOps
      [readByte s s.pc, readByte s (s.pc + 1#16), readByte s (s.pc + 2#16)] = .instr i rest →
  i.wf s.config.allowIllegalOps = true ∧
  step s = exec i { s with pc := s.pc + BitVec.ofNat 16 i.length }

/-- An instruction that transfers no control leaves PC at its address plus its length
(10_state.md section 3).
If the bytes at PC decode to an instruction other than a branch, JMP, JSR, RTS, RTI or BRK and
the step completes, PC after it is PC before it plus the instruction's length, modulo 65536. -/
def Obligations.PcAdvancesByLength : Prop :=
  ∀ (s t : State) (i : Instr) (rest : List Byte),
  decode s.config.allowIllegalOps
      [readByte s s.pc, readByte s (s.pc + 1#16), readByte s (s.pc + 2#16)] = .instr i rest →
  i.mnemonic ∉ controlTransfers → step s = .next t →
  t.pc.toNat = (s.pc.toNat + i.length) % 65536

/-- The register frame of every instruction (10_state.md sections 1 and 2).
Whenever exec of an instruction completes, each of A, X, Y, SP is unchanged unless the spec's
state summary says the instruction writes it (A by a shift only in its accumulator form; SP by
TXS and by what pushes or pops), and the configuration inputs are unchanged. -/
def Obligations.RegistersNotWrittenAreUnchanged : Prop :=
  ∀ (i : Instr) (s t : State) (r : Register), exec i s = .next t →
  (writesReg i r = false → t.reg r = s.reg r) ∧ t.config = s.config

/-- The flag frame of every instruction: only the flags of the spec's table are written
(10_state.md section 4).
Whenever exec of an instruction completes, each of the seven flags is unchanged unless the
column "set or cleared by" of the spec's flag table lists the instruction for it. -/
def Obligations.FlagsNotWrittenAreUnchanged : Prop :=
  ∀ (i : Instr) (s t : State) (name : FlagName), exec i s = .next t →
  i.mnemonic ∉ name.writers → t.flags.get name = s.flags.get name

/-- The memory frame of every instruction: only the cells it stores to change (20_memory.md
section 4, 40_addressing.md section 7).
Whenever exec of an instruction completes, every cell reads as before except those its access
list writes: the cell at the effective address of a store or read-modify-write form, the stack
cells of a push, of JSR and of BRK, computed by the functions the meaning uses; a form that
stores nothing changes no byte. -/
def Obligations.MemoryNotStoredToIsUnchanged : Prop :=
  ∀ (i : Instr) (s t : State) (addr : Addr), exec i s = .next t →
  writesCell (dataAccesses i s) addr = false → readByte t addr = readByte s addr

/-- An instruction depends on no memory cell but those its access list reads, and stores what
the list writes (20_memory.md section 4, 40_addressing.md section 7, 92_eei_decisions.md D3).
For every instruction and state, in any memory that agrees with the state's on the cells the
access list reads: the instruction completes with the registers, flags and PC it completes with
in the state itself, and its memory is the given one with the listed writes made in order. The
order of the accesses is the spec's decision D3 (log 6). -/
def Obligations.ExecDependsOnCellsItReads : Prop :=
  ∀ (i : Instr) (s : State) (m : Memory),
  (∀ addr : Addr, readsCell (dataAccesses i s) addr = true → m.read addr.toNat = readByte s addr) →
  ∃ t, exec i s = .next t ∧
    exec i { s with mem := m } = .next { t with mem := replayWrites (dataAccesses i s) m }

/-- A flag influences only the instructions the spec's table lists as its readers (10_state.md
section 4, 60_exceptions.md section 3).
For each flag and each instruction not in the column "read by" of the spec's flag table:
changing the flag before changes nothing after but that flag itself, and not even that if the
instruction writes it. So I influences only what PHP and BRK push, and B influences nothing. -/
def Obligations.FlagsNotReadDoNotMatter : Prop :=
  ∀ (i : Instr) (s : State) (name : FlagName) (v : Bool), i.mnemonic ∉ name.readers →
  ∃ t, exec i s = .next t ∧
    exec i (s.putFlag name v) =
      .next (if i.mnemonic ∈ name.writers then t else t.putFlag name v)

/-- The B flag influences no register, memory cell or control decision (R24).
Encode does not read B, Decode sets it from bit 4, BRK sets it to 1, reset clears it; and two
states that differ in B alone step alike: to next states that differ at most in B, or to the
same fault. -/
def Obligations.BreakFlagIsInert : Prop :=
  (∀ (f : Flags) (v : Bool), encodeStatus { f with b := v } = encodeStatus f) ∧
  (∀ p : Byte, (decodeStatus p).b = p.getLsbD 4) ∧
  (∀ s : State, ∃ t, exec .brk s = .next t ∧ t.flags.b = true) ∧
  (∀ cfg : Config, (State.powerOn cfg).flags.b = false) ∧
  ∀ (s : State) (v : Bool),
    (∃ t u, step s = .next t ∧ step (s.putFlag .b v) = .next u ∧
      u.putFlag .b false = t.putFlag .b false) ∨
    (∃ op, step s = .fault (.unimplementedOpcode op) ∧
      step (s.putFlag .b v) = .fault (.unimplementedOpcode op))

/-- BRK followed by RTI resumes two bytes after the BRK with the flags as before, but B = 1
(60_exceptions.md section 6, 46_stack_flags_system.md section Software interrupt and return).
After BRK, from whatever PC the vector gave, RTI returns to the address of the BRK plus 2 (PC +
1 in the state BRK runs in), with A, X, Y, SP and every flag as before the BRK except B, which
is 1. Decisions D4 and D15 of the spec (logs 7 and 8). -/
def Obligations.BreakThenReturnResumes : Prop :=
  ∀ (s t : State) (handler : Addr), exec .brk s = .next t →
  exec .rti { t with pc := handler } = .next { s with
    pc := s.pc + 1#16, flags := { s.flags with b := true }, mem := t.mem }

/-- JSR followed by RTS resumes after the JSR (45_branch_jump.md section Call and return,
92_eei_decisions.md D5).
After JSR, from whatever PC, RTS returns to the address after the JSR with every register and
flag as before it (the spec's decision D5, log 8). -/
def Obligations.CallThenReturnResumes : Prop :=
  ∀ (s t : State) (target anywhere : Addr), exec (.jsr target) s = .next t →
  t.pc = target ∧ exec .rts { t with pc := anywhere } = .next { s with mem := t.mem }

/-- load, load_image, load_image! and dump_memory (70_reset_and_hazards.md section 3,
92_eei_decisions.md D1, 92_eei_decisions.md D11).
load_image copies up to 65536 bytes from an address upward modulo 65536 and changes no other
cell, register, flag or input; load and load_image! reset first, load copying from initial_pc,
with PC left at initial_pc; dump_memory answers the cells from an address upward modulo 65536.
The wrap and the default address of load are decisions D1 and D11 of the spec (logs 4 and 11). -/
def Obligations.HostLoadsAndDumps : Prop :=
  ∀ (s : State) (bytes : List Byte) (start addr : Addr), bytes.length ≤ 65536 →
  readByte (hostLoadImage s bytes start) addr =
    (bytes[(addr.toNat + 65536 - start.toNat) % 65536]?).getD (readByte s addr) ∧
  hostLoadImage s bytes start = { s with mem := (hostLoadImage s bytes start).mem } ∧
  hostLoad s bytes = hostLoadImage (State.powerOn s.config) bytes s.config.initialPc ∧
  hostLoadAt s bytes start = hostLoadImage (State.powerOn s.config) bytes start ∧
  hostLoadImageBang s bytes start = hostLoadImage (State.powerOn s.config) bytes start ∧
  (hostLoad s bytes).pc = s.config.initialPc ∧
  hostDumpMemory s start bytes.length =
    (List.range bytes.length).map
      fun k => readByte s (BitVec.ofNat 16 ((start.toNat + k) % 65536))

/-- JMP to its own address and a taken branch with offset 0xFE are self-jumps (60_exceptions.md
section 10, 92_eei_decisions.md D14).
In a state whose bytes at PC are 4C and PC's own low and high byte, or the opcode of one of the
eight branches and FE with the branch's condition true (C = 0 for 90, C = 1 for B0, Z = 1 for
F0, Z = 0 for D0, N = 1 for 30, N = 0 for 10, V = 0 for 50, V = 1 for 70), the step completes
with the state unchanged, so it is a self-jump trap; the machine has not stopped, and every
further step does the same. That the host ends a run there is convention (the spec's decision
D14, log 14). -/
def Obligations.SelfJumps : Prop :=
  ∀ s : State,
  ((readByte s s.pc = 0x4C#8 ∧ readByte s (s.pc + 1#16) = loByte s.pc ∧
      readByte s (s.pc + 2#16) = hiByte s.pc) ∨
    (readByte s (s.pc + 1#16) = 0xFE#8 ∧
      ((readByte s s.pc = 0x90#8 ∧ s.flags.c = false) ∨
        (readByte s s.pc = 0xB0#8 ∧ s.flags.c = true) ∨
        (readByte s s.pc = 0xF0#8 ∧ s.flags.z = true) ∨
        (readByte s s.pc = 0xD0#8 ∧ s.flags.z = false) ∨
        (readByte s s.pc = 0x30#8 ∧ s.flags.n = true) ∨
        (readByte s s.pc = 0x10#8 ∧ s.flags.n = false) ∨
        (readByte s s.pc = 0x50#8 ∧ s.flags.v = false) ∨
        (readByte s s.pc = 0x70#8 ∧ s.flags.v = true)))) →
  step s = .next s ∧ selfJump s = true

/-- How many data accesses each class of instruction makes (20_memory.md section 4,
47_illegal.md section NOP variants, 92_eei_decisions.md D8).
Beyond its own bytes an instruction with a memory mode makes the mode's pointer reads (two for
(zp,X) and (zp),Y, none otherwise) and then one read if it loads or computes with memory or is
an illegal NOP of a memory mode, one write if it stores, one read and one write if it modifies;
JSR writes two and RTS reads two stack cells, PHA and PHP write and PLA and PLP read one, RTI
reads three, BRK writes three and reads the two vector cells, JMP (indirect) reads two; the
rest, the one-byte and immediate illegal NOPs among them, make none. What the illegal NOPs read
is the spec's decision D8 (log 6). -/
def Obligations.AccessCounts : Prop :=
  ∀ (i : Instr) (s : State),
  readCount (dataAccesses i s) = expectedReads i ∧ writeCount (dataAccesses i s) = expectedWrites i

/-- Decimal SBC on every pair of bytes, by nibbles, with every flag (41_alu_primitives.md
section 3, 92_eei_decisions.md D6).
For bytes with nibbles ah, al and vh, vl (any of 0 to 15): the low digit is al - vl - (1 - c),
plus 10 if that is negative, which is a borrow of 1 from the high nibble; h is ah - vh less that
borrow; the final byte is 16 h plus the low digit, less 0x60 if h is negative, modulo 256; C is
1 exactly when h is not negative; V is 1 exactly when bits 7 of the inputs differ and h lies in
-8..7; Z and N are those of the final byte; I, D, B are unchanged. This is the spec's decision
D6 (log 9). -/
def Obligations.DecimalSubtractOnAllNibbles : Prop :=
  ∀ (ah al vh vl : Nat) (low h : Int) (f : Flags), ah < 16 → al < 16 → vh < 16 → vl < 16 →
  low = (al : Int) - vl - (1 - bitOf f.c) + (if al + bitOf f.c < vl + 1 then 10 else 0) →
  h = (ah : Int) - vh - (if al + bitOf f.c < vl + 1 then 1 else 0) →
  ((sbcDec (BitVec.ofNat 8 (16 * ah + al)) (BitVec.ofNat 8 (16 * vh + vl)) f).1.toNat : Int) =
    (16 * h + low - (if h < 0 then 96 else 0)) % 256 ∧
  ((sbcDec (BitVec.ofNat 8 (16 * ah + al)) (BitVec.ofNat 8 (16 * vh + vl)) f).2.c = true ↔
    0 ≤ h) ∧
  ((sbcDec (BitVec.ofNat 8 (16 * ah + al)) (BitVec.ofNat 8 (16 * vh + vl)) f).2.v = true ↔
    (¬(ah < 8 ↔ vh < 8) ∧ -8 ≤ h ∧ h < 8)) ∧
  ((sbcDec (BitVec.ofNat 8 (16 * ah + al)) (BitVec.ofNat 8 (16 * vh + vl)) f).2.z = true ↔
    (16 * h + low - (if h < 0 then 96 else 0)) % 256 = 0) ∧
  ((sbcDec (BitVec.ofNat 8 (16 * ah + al)) (BitVec.ofNat 8 (16 * vh + vl)) f).2.n = true ↔
    128 ≤ (16 * h + low - (if h < 0 then 96 else 0)) % 256) ∧
  (sbcDec (BitVec.ofNat 8 (16 * ah + al)) (BitVec.ofNat 8 (16 * vh + vl)) f).2.i = f.i ∧
  (sbcDec (BitVec.ofNat 8 (16 * ah + al)) (BitVec.ofNat 8 (16 * vh + vl)) f).2.d = f.d ∧
  (sbcDec (BitVec.ofNat 8 (16 * ah + al)) (BitVec.ofNat 8 (16 * vh + vl)) f).2.b = f.b
end

