-- ==== Sys2Proof/Laws/State.lean ====
section
/-! SUPPORT. One lemma per field per register write, so that no proof unfolds a record update. -/

namespace Sys2Proof.Machine

@[simp] theorem State.setA_a (s : State) (v : Byte) : (s.setA v).a = v := rfl
@[simp] theorem State.setA_x (s : State) (v : Byte) : (s.setA v).x = s.x := rfl
@[simp] theorem State.setA_y (s : State) (v : Byte) : (s.setA v).y = s.y := rfl
@[simp] theorem State.setA_sp (s : State) (v : Byte) : (s.setA v).sp = s.sp := rfl
@[simp] theorem State.setA_pc (s : State) (v : Byte) : (s.setA v).pc = s.pc := rfl
@[simp] theorem State.setA_flags (s : State) (v : Byte) : (s.setA v).flags = s.flags := rfl
@[simp] theorem State.setA_mem (s : State) (v : Byte) : (s.setA v).mem = s.mem := rfl
@[simp] theorem State.setA_config (s : State) (v : Byte) : (s.setA v).config = s.config := rfl

@[simp] theorem State.setX_a (s : State) (v : Byte) : (s.setX v).a = s.a := rfl
@[simp] theorem State.setX_x (s : State) (v : Byte) : (s.setX v).x = v := rfl
@[simp] theorem State.setX_y (s : State) (v : Byte) : (s.setX v).y = s.y := rfl
@[simp] theorem State.setX_sp (s : State) (v : Byte) : (s.setX v).sp = s.sp := rfl
@[simp] theorem State.setX_pc (s : State) (v : Byte) : (s.setX v).pc = s.pc := rfl
@[simp] theorem State.setX_flags (s : State) (v : Byte) : (s.setX v).flags = s.flags := rfl
@[simp] theorem State.setX_mem (s : State) (v : Byte) : (s.setX v).mem = s.mem := rfl
@[simp] theorem State.setX_config (s : State) (v : Byte) : (s.setX v).config = s.config := rfl

@[simp] theorem State.setY_a (s : State) (v : Byte) : (s.setY v).a = s.a := rfl
@[simp] theorem State.setY_x (s : State) (v : Byte) : (s.setY v).x = s.x := rfl
@[simp] theorem State.setY_y (s : State) (v : Byte) : (s.setY v).y = v := rfl
@[simp] theorem State.setY_sp (s : State) (v : Byte) : (s.setY v).sp = s.sp := rfl
@[simp] theorem State.setY_pc (s : State) (v : Byte) : (s.setY v).pc = s.pc := rfl
@[simp] theorem State.setY_flags (s : State) (v : Byte) : (s.setY v).flags = s.flags := rfl
@[simp] theorem State.setY_mem (s : State) (v : Byte) : (s.setY v).mem = s.mem := rfl
@[simp] theorem State.setY_config (s : State) (v : Byte) : (s.setY v).config = s.config := rfl

@[simp] theorem State.setSp_a (s : State) (v : Byte) : (s.setSp v).a = s.a := rfl
@[simp] theorem State.setSp_x (s : State) (v : Byte) : (s.setSp v).x = s.x := rfl
@[simp] theorem State.setSp_y (s : State) (v : Byte) : (s.setSp v).y = s.y := rfl
@[simp] theorem State.setSp_sp (s : State) (v : Byte) : (s.setSp v).sp = v := rfl
@[simp] theorem State.setSp_pc (s : State) (v : Byte) : (s.setSp v).pc = s.pc := rfl
@[simp] theorem State.setSp_flags (s : State) (v : Byte) : (s.setSp v).flags = s.flags := rfl
@[simp] theorem State.setSp_mem (s : State) (v : Byte) : (s.setSp v).mem = s.mem := rfl
@[simp] theorem State.setSp_config (s : State) (v : Byte) : (s.setSp v).config = s.config := rfl

@[simp] theorem State.setPc_a (s : State) (v : Addr) : (s.setPc v).a = s.a := rfl
@[simp] theorem State.setPc_x (s : State) (v : Addr) : (s.setPc v).x = s.x := rfl
@[simp] theorem State.setPc_y (s : State) (v : Addr) : (s.setPc v).y = s.y := rfl
@[simp] theorem State.setPc_sp (s : State) (v : Addr) : (s.setPc v).sp = s.sp := rfl
@[simp] theorem State.setPc_pc (s : State) (v : Addr) : (s.setPc v).pc = v := rfl
@[simp] theorem State.setPc_flags (s : State) (v : Addr) : (s.setPc v).flags = s.flags := rfl
@[simp] theorem State.setPc_mem (s : State) (v : Addr) : (s.setPc v).mem = s.mem := rfl
@[simp] theorem State.setPc_config (s : State) (v : Addr) : (s.setPc v).config = s.config := rfl

@[simp] theorem State.setFlags_a (s : State) (v : Flags) : (s.setFlags v).a = s.a := rfl
@[simp] theorem State.setFlags_x (s : State) (v : Flags) : (s.setFlags v).x = s.x := rfl
@[simp] theorem State.setFlags_y (s : State) (v : Flags) : (s.setFlags v).y = s.y := rfl
@[simp] theorem State.setFlags_sp (s : State) (v : Flags) : (s.setFlags v).sp = s.sp := rfl
@[simp] theorem State.setFlags_pc (s : State) (v : Flags) : (s.setFlags v).pc = s.pc := rfl
@[simp] theorem State.setFlags_flags (s : State) (v : Flags) : (s.setFlags v).flags = v := rfl
@[simp] theorem State.setFlags_mem (s : State) (v : Flags) : (s.setFlags v).mem = s.mem := rfl
@[simp] theorem State.setFlags_config (s : State) (v : Flags) :
    (s.setFlags v).config = s.config := rfl

@[simp] theorem State.setMem_a (s : State) (v : Memory) : (s.setMem v).a = s.a := rfl
@[simp] theorem State.setMem_x (s : State) (v : Memory) : (s.setMem v).x = s.x := rfl
@[simp] theorem State.setMem_y (s : State) (v : Memory) : (s.setMem v).y = s.y := rfl
@[simp] theorem State.setMem_sp (s : State) (v : Memory) : (s.setMem v).sp = s.sp := rfl
@[simp] theorem State.setMem_pc (s : State) (v : Memory) : (s.setMem v).pc = s.pc := rfl
@[simp] theorem State.setMem_flags (s : State) (v : Memory) : (s.setMem v).flags = s.flags := rfl
@[simp] theorem State.setMem_mem (s : State) (v : Memory) : (s.setMem v).mem = v := rfl
@[simp] theorem State.setMem_config (s : State) (v : Memory) : (s.setMem v).config = s.config := rfl

end Sys2Proof.Machine
end

