-- ==== Sys2Proof/Laws/Memory.lean ====
section
/-! SUPPORT. The laws of memory: a read after a write, and that every operation keeps the canonical
form (spec/20_memory.md R42, R43). The read laws need no hypothesis on the memory. -/

namespace Sys2Proof.Machine

/-! ## Reading -/

theorem Memory.read_erase (m : Memory) (k j : Nat) :
    (m.erase k).read j = if j = k then unwrittenByte else m.read j := by
  induction m with
  | nil => simp [Memory.erase, Memory.read]
  | cons cell rest ih =>
    by_cases hk : cell.1 = k
    · by_cases hj : j = k
      · subst hj; simpa [Memory.erase, hk] using ih
      · simp [Memory.erase, hk, ih, hj, Memory.read, Ne.symm hj]
    · by_cases hj : j = k
      · subst hj; simp [Memory.erase, hk, Memory.read, ih]
      · simp [Memory.erase, hk, Memory.read, ih, hj]

theorem Memory.read_insert (m : Memory) (k : Nat) (v : Byte) (j : Nat)
    (h : m.read k = unwrittenByte) (hk : ∀ cell ∈ m, cell.1 ≠ k) :
    (m.insert k v).read j = if j = k then v else m.read j := by
  induction m with
  | nil => simp [Memory.insert, Memory.read, eq_comm]
  | cons cell rest ih =>
    have hc : cell.1 ≠ k := hk cell (by simp)
    have hr : Memory.read rest k = unwrittenByte := by simpa [Memory.read, hc] using h
    have ih := ih hr (fun c hc => hk c (by simp [hc]))
    by_cases hlt : k < cell.1
    · simp [Memory.insert, hlt, Memory.read, eq_comm]
    · by_cases hj : cell.1 = j
      · subst hj; simp [Memory.insert, hlt, Memory.read, hc]
      · simp [Memory.insert, hlt, Memory.read, hj, ih]

theorem Memory.mem_erase {m : Memory} {k : Nat} {cell : Host.Cell} (h : cell ∈ m.erase k) :
    cell ∈ m ∧ cell.1 ≠ k := by
  induction m with
  | nil => simp [Memory.erase] at h
  | cons c rest ih =>
    by_cases hk : c.1 = k
    · simp only [Memory.erase, hk, if_true] at h
      exact ⟨List.mem_cons_of_mem _ (ih h).1, (ih h).2⟩
    · simp only [Memory.erase, hk, if_false, List.mem_cons] at h
      rcases h with rfl | h
      · exact ⟨by simp, hk⟩
      · exact ⟨List.mem_cons_of_mem _ (ih h).1, (ih h).2⟩

/-- R42, R43 on memories: a write replaces one byte. -/
@[simp] theorem Memory.read_write (m : Memory) (k : Nat) (v : Byte) (j : Nat) :
    (m.write k v).read j = if j = k then v else m.read j := by
  unfold Memory.write
  split
  · simp_all [Memory.read_erase]
  · rw [Memory.read_insert _ _ _ _ (by simp [Memory.read_erase])
      (fun c hc => (Memory.mem_erase hc).2), Memory.read_erase]
    split <;> simp_all

/-! ## The canonical form -/

theorem Memory.mem_insert {m : Memory} {k : Nat} {v : Byte} {cell : Host.Cell}
    (h : cell ∈ m.insert k v) : cell = (k, v) ∨ cell ∈ m := by
  induction m with
  | nil => simpa [Memory.insert] using h
  | cons c rest ih =>
    by_cases hlt : k < c.1
    · simpa [Memory.insert, hlt] using h
    · simp only [Memory.insert, hlt, if_false, List.mem_cons] at h
      rcases h with rfl | h
      · simp
      · rcases ih h with rfl | h <;> simp_all

theorem Memory.wf_cons (cell : Host.Cell) (rest : Memory) :
    Memory.wf (cell :: rest) = true ↔
      cell.1 < memorySize ∧ cell.2 ≠ unwrittenByte ∧ (∀ later ∈ rest, cell.1 < later.1)
        ∧ Memory.wf rest = true := by
  simp [Memory.wf, and_assoc]

theorem Memory.wf_erase (m : Memory) (k : Nat) (h : m.wf = true) : (m.erase k).wf = true := by
  induction m with
  | nil => rfl
  | cons c rest ih =>
    rw [Memory.wf_cons] at h
    by_cases hk : c.1 = k
    · simpa [Memory.erase, hk] using ih h.2.2.2
    · simp only [Memory.erase, hk, if_false]
      rw [Memory.wf_cons]
      exact ⟨h.1, h.2.1, fun later hl => h.2.2.1 later (Memory.mem_erase hl).1, ih h.2.2.2⟩

theorem Memory.wf_insert (m : Memory) (k : Nat) (v : Byte) (h : m.wf = true)
    (hk : ∀ cell ∈ m, cell.1 ≠ k) (hs : k < memorySize) (hv : v ≠ unwrittenByte) :
    (m.insert k v).wf = true := by
  induction m with
  | nil => simp [Memory.insert, Memory.wf, hs, hv]
  | cons c rest ih =>
    have hc := (Memory.wf_cons c rest).1 h
    by_cases hlt : k < c.1
    · simp only [Memory.insert, hlt, if_true]
      refine (Memory.wf_cons _ _).2 ⟨hs, hv, fun later hl => ?_, h⟩
      rcases List.mem_cons.1 hl with rfl | hl
      · exact hlt
      · exact lt_trans hlt (hc.2.2.1 later hl)
    · simp only [Memory.insert, hlt, if_false]
      refine (Memory.wf_cons _ _).2
        ⟨hc.1, hc.2.1, fun later hl => ?_, ih hc.2.2.2 (fun d hd => hk d (by simp [hd]))⟩
      rcases Memory.mem_insert hl with rfl | hl
      · exact lt_of_le_of_ne (not_lt.1 hlt) (hk c (by simp))
      · exact hc.2.2.1 later hl

/-- A write inside the address space keeps the canonical form. -/
theorem Memory.wf_write (m : Memory) (k : Nat) (v : Byte) (h : m.wf = true)
    (hs : k < memorySize) : (m.write k v).wf = true := by
  unfold Memory.write
  split
  · exact Memory.wf_erase m k h
  · exact Memory.wf_insert _ _ _ (Memory.wf_erase m k h)
      (fun c hc => (Memory.mem_erase hc).2) hs ‹_›

/-! ## Bytes of a state -/

@[simp] theorem writeByte_a (s : State) (k : Addr) (v : Byte) : (writeByte s k v).a = s.a := rfl
@[simp] theorem writeByte_x (s : State) (k : Addr) (v : Byte) : (writeByte s k v).x = s.x := rfl
@[simp] theorem writeByte_y (s : State) (k : Addr) (v : Byte) : (writeByte s k v).y = s.y := rfl
@[simp] theorem writeByte_sp (s : State) (k : Addr) (v : Byte) : (writeByte s k v).sp = s.sp := rfl
@[simp] theorem writeByte_pc (s : State) (k : Addr) (v : Byte) : (writeByte s k v).pc = s.pc := rfl
@[simp] theorem writeByte_flags (s : State) (k : Addr) (v : Byte) :
    (writeByte s k v).flags = s.flags := rfl
@[simp] theorem writeByte_mem (s : State) (k : Addr) (v : Byte) :
    (writeByte s k v).mem = s.mem.write k.toNat v := rfl
@[simp] theorem writeByte_config (s : State) (k : Addr) (v : Byte) :
    (writeByte s k v).config = s.config := rfl

/-- R42, R43: reading after a write. -/
@[simp] theorem readByte_writeByte (s : State) (k j : Addr) (v : Byte) :
    readByte (writeByte s k v) j = if j = k then v else readByte s j := by
  simp [readByte, BitVec.toNat_inj]

/-- Reads depend on the memory alone. -/
theorem readByte_congr {s t : State} (h : s.mem = t.mem) (j : Addr) :
    readByte s j = readByte t j := by
  simp [readByte, h]

/-! A read does not see a register or flag write. -/

@[simp] theorem readByte_setA (s : State) (v : Byte) (j : Addr) :
    readByte (s.setA v) j = readByte s j := rfl
@[simp] theorem readByte_setX (s : State) (v : Byte) (j : Addr) :
    readByte (s.setX v) j = readByte s j := rfl
@[simp] theorem readByte_setY (s : State) (v : Byte) (j : Addr) :
    readByte (s.setY v) j = readByte s j := rfl
@[simp] theorem readByte_setSp (s : State) (v : Byte) (j : Addr) :
    readByte (s.setSp v) j = readByte s j := rfl
@[simp] theorem readByte_setPc (s : State) (v : Addr) (j : Addr) :
    readByte (s.setPc v) j = readByte s j := rfl
@[simp] theorem readByte_setFlags (s : State) (v : Flags) (j : Addr) :
    readByte (s.setFlags v) j = readByte s j := rfl

/-- A byte write keeps the canonical form. -/
theorem writeByte_wf (s : State) (k : Addr) (v : Byte) (h : s.mem.wf = true) :
    (writeByte s k v).mem.wf = true :=
  Memory.wf_write _ _ _ h k.isLt

end Sys2Proof.Machine
end

