-- ==== Sys2Proof/Laws/Ops.lean ====
section
/-! SUPPORT. What the stack operations and the packed status do: every field after them, and the
bytes they leave (spec/20_memory.md R50 to R52, spec/10_state.md R22, R23). -/

namespace Sys2Proof.Machine

/-! ## Words and bytes -/

theorem joinBytes_toNat (hi lo : Byte) : (joinBytes hi lo).toNat = hi.toNat * 256 + lo.toNat := by
  have := hi.isLt
  have := lo.isLt
  simp only [joinBytes, BitVec.toNat_ofNat]
  omega

theorem loByte_toNat (w : Addr) : (loByte w).toNat = w.toNat % 256 := by simp [loByte]

theorem hiByte_toNat (w : Addr) : (hiByte w).toNat = w.toNat / 256 := by
  have := w.isLt
  simp only [hiByte, BitVec.toNat_ofNat]
  omega

@[simp] theorem joinBytes_hi_lo (w : Addr) : joinBytes (hiByte w) (loByte w) = w := by
  apply BitVec.eq_of_toNat_eq
  rw [joinBytes_toNat, hiByte_toNat, loByte_toNat]
  omega

@[simp] theorem loByte_joinBytes (hi lo : Byte) : loByte (joinBytes hi lo) = lo := by
  apply BitVec.eq_of_toNat_eq
  have := lo.isLt
  rw [loByte_toNat, joinBytes_toNat]
  omega

@[simp] theorem hiByte_joinBytes (hi lo : Byte) : hiByte (joinBytes hi lo) = hi := by
  apply BitVec.eq_of_toNat_eq
  have := lo.isLt
  rw [hiByte_toNat, joinBytes_toNat]
  omega

theorem zext16_toNat (b : Byte) : (zext16 b).toNat = b.toNat := by
  have := b.isLt
  simp only [zext16, BitVec.toNat_setWidth]
  omega

/-! ## The stack -/

theorem stackAddr_toNat (sp : Byte) : (stackAddr sp).toNat = 256 + sp.toNat := by
  have h := zext16_toNat sp
  have := sp.isLt
  simp only [stackAddr, stackBase, BitVec.toNat_add, h, BitVec.toNat_ofNat]
  omega

/-- Two stack indexes name the same cell only if they are equal. -/
@[simp] theorem stackAddr_inj (p q : Byte) : stackAddr p = stackAddr q ↔ p = q := by
  constructor
  · intro h
    have := congrArg BitVec.toNat h
    rw [stackAddr_toNat, stackAddr_toNat] at this
    exact BitVec.eq_of_toNat_eq (by omega)
  · rintro rfl; rfl

/-! The last three stack indexes of a push sequence are distinct. -/

@[simp] theorem sp_ne_sub_one (sp : Byte) : sp ≠ sp - 1#8 := by
  intro h
  have h := congrArg BitVec.toNat h
  have := sp.isLt
  simp only [BitVec.toNat_sub, BitVec.toNat_ofNat] at h
  omega

@[simp] theorem sub_one_ne_sp (sp : Byte) : sp - 1#8 ≠ sp := (sp_ne_sub_one sp).symm

@[simp] theorem sp_ne_sub_two (sp : Byte) : sp ≠ sp - 1#8 - 1#8 := by
  intro h
  have h := congrArg BitVec.toNat h
  have := sp.isLt
  simp only [BitVec.toNat_sub, BitVec.toNat_ofNat] at h
  omega

@[simp] theorem sub_two_ne_sp (sp : Byte) : sp - 1#8 - 1#8 ≠ sp := (sp_ne_sub_two sp).symm

@[simp] theorem push_a (b : Byte) (s : State) : (push b s).a = s.a := rfl
@[simp] theorem push_x (b : Byte) (s : State) : (push b s).x = s.x := rfl
@[simp] theorem push_y (b : Byte) (s : State) : (push b s).y = s.y := rfl
@[simp] theorem push_sp (b : Byte) (s : State) : (push b s).sp = s.sp - 1#8 := rfl
@[simp] theorem push_pc (b : Byte) (s : State) : (push b s).pc = s.pc := rfl
@[simp] theorem push_flags (b : Byte) (s : State) : (push b s).flags = s.flags := rfl
@[simp] theorem push_config (b : Byte) (s : State) : (push b s).config = s.config := rfl
@[simp] theorem push_mem (b : Byte) (s : State) :
    (push b s).mem = s.mem.write (stackAddr s.sp).toNat b := rfl

/-- The cells after a push (R50). -/
@[simp] theorem readByte_push (b : Byte) (s : State) (j : Addr) :
    readByte (push b s) j = if j = stackAddr s.sp then b else readByte s j :=
  (readByte_congr rfl j).trans (readByte_writeByte s (stackAddr s.sp) j b)

@[simp] theorem pop_fst (s : State) : (pop s).1 = readByte s (stackAddr (s.sp + 1#8)) := rfl
@[simp] theorem pop_snd (s : State) : (pop s).2 = s.setSp (s.sp + 1#8) := rfl

@[simp] theorem popWord_fst (s : State) :
    (popWord s).1 = joinBytes (readByte s (stackAddr (s.sp + 1#8 + 1#8)))
      (readByte s (stackAddr (s.sp + 1#8))) := rfl

@[simp] theorem popWord_snd (s : State) : (popWord s).2 = s.setSp (s.sp + 1#8 + 1#8) := rfl

/-- A push keeps the canonical form. -/
theorem push_wf (b : Byte) (s : State) (h : s.mem.wf = true) : (push b s).mem.wf = true :=
  writeByte_wf s _ b h

@[simp] theorem takeBreak_config (s : State) : (takeBreak s).config = s.config := by
  simp [takeBreak, pushWord]

@[simp] theorem takeBreak_mem (s : State) : (takeBreak s).mem =
    (push (encodeStatus s.flags) (pushWord (s.pc + 1#16) s)).mem := by
  simp [takeBreak]

@[simp] theorem returnFromInterrupt_config (s : State) :
    (returnFromInterrupt s).config = s.config := by
  simp [returnFromInterrupt]

@[simp] theorem returnFromInterrupt_mem (s : State) : (returnFromInterrupt s).mem = s.mem := by
  simp [returnFromInterrupt]

/-! ## The packed status -/

/-- R22: the B flag is not read. -/
@[simp] theorem encodeStatus_put_b (f : Flags) (v : Bool) :
    encodeStatus { f with b := v } = encodeStatus f := rfl

/-- R23 after R22: every flag but B comes back, and B comes back 1 (R25). -/
@[simp] theorem decodeStatus_encodeStatus (f : Flags) :
    decodeStatus (encodeStatus f) = { f with b := true } := by
  obtain ⟨c, z, i, d, b, v, n⟩ := f
  cases c <;> cases z <;> cases i <;> cases d <;> cases b <;> cases v <;>
    cases n <;> rfl

end Sys2Proof.Machine
end

