-- ==== Sys2Proof/Laws/Decode.lean ====
section
/-! SUPPORT. What the opcode table holds for each instruction's opcode byte
(spec/30_encoding.md R65, R66, R68), said once, so that no proof searches the table again. -/

namespace Sys2Proof.Laws

/-- The row of an instruction's opcode stands in the instruction's table, and its shape makes the
instruction of its operand bytes. -/
theorem tableRow_opcode (i : Instr) :
    ∃ shape, tableRow i.opcode = some ⟨i.table, shape⟩ ∧
      ∀ rest, shape.decode (i.mode.operandBytes ++ rest) = .instr i rest := by
  cases i
  all_goals first
    | exact ⟨_, by simp only [Instr.opcode]; rfl, fun rest => rfl⟩
    | exact ⟨_, by simp only [Instr.opcode]; rfl, fun rest => by
        simp only [Instr.mode, Mode.operandBytes, MemMode.operandBytes, List.cons_append,
          List.nil_append, Shape.decode, Machine.joinBytes_hi_lo]⟩

end Sys2Proof.Laws
end

