-- ==== Sys2Proof/Laws/Exec.lean ====
section
/-! SUPPORT. What `exec` does, by mnemonic and addressing mode: one equation that 230 one-line
meanings satisfy, so that a proof over all instructions splits into the 65 mnemonics. -/

namespace Sys2Proof.Laws

open Sys2Proof.Machine

/-- The source byte of a mode: the immediate, or the byte at `EA(mode)`. -/
def source (mode : Mode) (s : State) : Byte :=
  match mode with
  | .immediate b => b
  | .mem m => memOperand m s
  | .implied | .accumulator | .indirect _ | .relative _ => 0x00#8

/-- An effect on the cell a mode names. -/
def onCell (f : MemMode → State → State) (mode : Mode) (s : State) : State :=
  match mode with
  | .mem m => f m s
  | .implied | .accumulator | .immediate _ | .indirect _ | .relative _ => s

/-- A read-modify-write of A or of the cell a mode names. -/
def onTarget (f : Unary) (mode : Mode) (s : State) : State :=
  match mode with
  | .accumulator => rmwAcc f s
  | .mem m => rmwMem f m s
  | .implied | .immediate _ | .indirect _ | .relative _ => s

/-- A conditional branch. -/
def onBranch (cond : Bool) (mode : Mode) (s : State) : State :=
  match mode with
  | .relative off => branchIf cond off s
  | .implied | .accumulator | .immediate _ | .mem _ | .indirect _ => s

/-- A jump to an absolute or indirect target. -/
def onJump (mode : Mode) (s : State) : State :=
  match mode with
  | .mem m => s.setPc (ea m s)
  | .indirect w => s.setPc (readJumpPointer s w)
  | .implied | .accumulator | .immediate _ | .relative _ => s

/-- A call of an absolute target. -/
def onCall (mode : Mode) (s : State) : State :=
  match mode with
  | .mem m => (pushWord (s.pc - 1#16) s).setPc (ea m s)
  | .implied | .accumulator | .immediate _ | .indirect _ | .relative _ => s

/-- The state an instruction completes in, by its mnemonic and mode. -/
def meaningOf (mnemonic : Mnemonic) (mode : Mode) (s : State) : State :=
  match mnemonic with
  | .lda => lda (source mode s) s
  | .ldx => ldx (source mode s) s
  | .ldy => ldy (source mode s) s
  | .sta => onCell (fun m => store m s.a) mode s
  | .stx => onCell (fun m => store m s.x) mode s
  | .sty => onCell (fun m => store m s.y) mode s
  | .tax => ldx s.a s
  | .tay => ldy s.a s
  | .txa => lda s.x s
  | .tya => lda s.y s
  | .tsx => ldx s.sp s
  | .txs => s.setSp s.x
  | .adc => accOp adc (source mode s) s
  | .sbc => accOp sbc (source mode s) s
  | .and => accOp andA (source mode s) s
  | .ora => accOp oraA (source mode s) s
  | .eor => accOp eorA (source mode s) s
  | .cmp => cmpReg s.a (source mode s) s
  | .cpx => cmpReg s.x (source mode s) s
  | .cpy => cmpReg s.y (source mode s) s
  | .bit => bitMem (source mode s) s
  | .inc => onCell (rmwMem inc) mode s
  | .dec => onCell (rmwMem dec) mode s
  | .inx => (s.setX (inc s.x s.flags).1).setFlags (inc s.x s.flags).2
  | .iny => (s.setY (inc s.y s.flags).1).setFlags (inc s.y s.flags).2
  | .dex => (s.setX (dec s.x s.flags).1).setFlags (dec s.x s.flags).2
  | .dey => (s.setY (dec s.y s.flags).1).setFlags (dec s.y s.flags).2
  | .asl => onTarget asl mode s
  | .lsr => onTarget lsr mode s
  | .rol => onTarget rol mode s
  | .ror => onTarget ror mode s
  | .bcc => onBranch (!s.flags.c) mode s
  | .bcs => onBranch s.flags.c mode s
  | .beq => onBranch s.flags.z mode s
  | .bne => onBranch (!s.flags.z) mode s
  | .bmi => onBranch s.flags.n mode s
  | .bpl => onBranch (!s.flags.n) mode s
  | .bvc => onBranch (!s.flags.v) mode s
  | .bvs => onBranch s.flags.v mode s
  | .jmp => onJump mode s
  | .jsr => onCall mode s
  | .rts => (popWord s).2.setPc ((popWord s).1 + 1#16)
  | .pha => push s.a s
  | .pla => ((pop s).2.setA (pop s).1).setFlags (setZN (pop s).1 s.flags)
  | .php => push (encodeStatus s.flags) s
  | .plp => (pop s).2.setFlags (decodeStatus (pop s).1)
  | .clc => s.setFlags { s.flags with c := false }
  | .sec => s.setFlags { s.flags with c := true }
  | .cli => s.setFlags { s.flags with i := false }
  | .sei => s.setFlags { s.flags with i := true }
  | .cld => s.setFlags { s.flags with d := false }
  | .sed => s.setFlags { s.flags with d := true }
  | .clv => s.setFlags { s.flags with v := false }
  | .nop => s
  | .brk => takeBreak s
  | .rti => returnFromInterrupt s
  | .lax => lax (source mode s) s
  | .sax => onCell (fun m => store m (s.a &&& s.x)) mode s
  | .slo => onCell (comboMem asl oraA) mode s
  | .rla => onCell (comboMem rol andA) mode s
  | .sre => onCell (comboMem lsr eorA) mode s
  | .rra => onCell (comboMem ror adc) mode s
  | .dcp => onCell (comboMem dec compareFold) mode s
  | .isc => onCell (comboMem inc sbc) mode s
  | .nopIll => s

/-- Every instruction completes, in the state `meaningOf` gives. -/
theorem exec_eq (i : Instr) (s : State) :
    exec i s = .next (meaningOf i.mnemonic i.mode s) := by
  cases i <;> rfl

/-- Inversion of `exec`. -/
theorem eq_of_exec {i : Instr} {s t : State} (h : exec i s = .next t) :
    t = meaningOf i.mnemonic i.mode s := by
  rw [exec_eq] at h
  cases h
  rfl

/-! ## The modes a mnemonic occurs in -/

/-- Whether a mnemonic occurs in a mode: its kind of operand. -/
def modeOk (mnemonic : Mnemonic) (mode : Mode) : Bool :=
  match mnemonic with
  | .lda | .ldx | .ldy | .adc | .sbc | .and | .ora | .eor | .cmp | .cpx | .cpy | .bit | .lax =>
    match mode with
    | .immediate _ | .mem _ => true
    | _ => false
  | .sta | .stx | .sty | .sax | .inc | .dec | .slo | .rla | .sre | .rra | .dcp | .isc =>
    match mode with
    | .mem _ => true
    | _ => false
  | .asl | .lsr | .rol | .ror =>
    match mode with
    | .accumulator | .mem _ => true
    | _ => false
  | .bcc | .bcs | .beq | .bne | .bmi | .bpl | .bvc | .bvs =>
    match mode with
    | .relative _ => true
    | _ => false
  | .jmp =>
    match mode with
    | .mem (.abs _) | .indirect _ => true
    | _ => false
  | .jsr =>
    match mode with
    | .mem (.abs _) => true
    | _ => false
  | .nopIll =>
    match mode with
    | .implied | .immediate _ | .mem _ => true
    | _ => false
  | _ => mode == .implied

/-- An instruction's mode is one its mnemonic occurs in; use it after generalizing both. -/
theorem modeOk_of (i : Instr) : modeOk i.mnemonic i.mode = true := by
  cases i <;> rfl

end Sys2Proof.Laws
end

