-- ==== Sys2Proof/Laws/Flags.lean ====
section
/-! SUPPORT. What the arithmetic primitives' parts mean as numbers, and the flags no primitive
writes (spec/41_alu_primitives.md). -/

namespace Sys2Proof.Machine

/-! ## Bits of a byte as numbers -/

theorem bitOf_le_one (c : Bool) : bitOf c ≤ 1 := by cases c <;> decide

theorem bit7_iff (r : Byte) : r.getLsbD 7 = true ↔ 128 ≤ r.toNat := by revert r; decide

theorem bit0_iff (r : Byte) : r.getLsbD 0 = true ↔ r.toNat % 2 = 1 := by revert r; decide

theorem isZero_iff (r : Byte) : (r == 0x00#8) = true ↔ r.toNat = 0 := by revert r; decide

theorem low7_toNat (a : Byte) : (a &&& 0x7F#8).toNat = a.toNat % 128 := by revert a; decide

theorem lowNibble_toNat (a : Byte) : (a &&& 0x0F#8).toNat = a.toNat % 16 := by revert a; decide

theorem highNibble_toNat (a : Byte) : (a &&& 0xF0#8).toNat = a.toNat / 16 * 16 := by
  revert a; decide

theorem complement_toNat (v : Byte) : (v ^^^ 0xFF#8).toNat = 255 - v.toNat := by revert v; decide

/-- The test on the sign bits that R104 and R106 start V from. -/
theorem sameSign_eq (a v : Byte) :
    (((a ^^^ v) &&& 0x80#8) == 0x00#8) = decide (a.toNat < 128 ↔ v.toNat < 128) := by
  have sign : ∀ x : Byte, (x &&& 0x80#8 == 0x00#8) = !x.getLsbD 7 := by decide
  have ha := bit7_iff a
  have hv := bit7_iff v
  rw [sign, BitVec.getLsbD_xor]
  generalize a.getLsbD 7 = p at *
  generalize v.getLsbD 7 = q at *
  cases p <;> cases q <;> simp_all <;> omega

/-- R104: the corrected low nibble of a decimal sum. -/
theorem lowCorrection (low : Nat) (h : low < 32) :
    0x10 ||| ((low + 0x06) &&& 0x0F) = 16 + (low + 6) % 16 := by
  interval_cases low <;> rfl

/-! ## SetZN -/

theorem setZN_z_iff (r : Byte) (f : Flags) : (setZN r f).z = true ↔ r.toNat = 0 := isZero_iff r

theorem setZN_n_iff (r : Byte) (f : Flags) : (setZN r f).n = true ↔ 128 ≤ r.toNat := bit7_iff r

@[simp] theorem setZN_c (r : Byte) (f : Flags) : (setZN r f).c = f.c := rfl
@[simp] theorem setZN_i (r : Byte) (f : Flags) : (setZN r f).i = f.i := rfl
@[simp] theorem setZN_d (r : Byte) (f : Flags) : (setZN r f).d = f.d := rfl
@[simp] theorem setZN_b (r : Byte) (f : Flags) : (setZN r f).b = f.b := rfl
@[simp] theorem setZN_v (r : Byte) (f : Flags) : (setZN r f).v = f.v := rfl

/-! ## The flags add and subtract leave alone, and the last thing they do -/

/-- ADC reads C and D alone of the flags: whatever the others are, it answers the same byte, writes
the same C and V, and ends in SetZN of its result. -/
theorem adc_form (a v : Byte) (c d : Bool) :
    ∃ r c' v', ∀ f : Flags, f.c = c → f.d = d →
      adc a v f = (r, setZN r { f with c := c', v := v' }) := by
  let f₀ : Flags := { c := c, z := false, i := false, d := d, b := false, v := false, n := false }
  refine ⟨(adc a v f₀).1, (adc a v f₀).2.c, (adc a v f₀).2.v, ?_⟩
  rintro ⟨fc, fz, fi, fd, fb, fv, fn⟩ rfl rfl
  cases fd
  · rfl
  · simp only [adc, adcDec, f₀, if_true]
    split <;> split <;> rfl

/-- SBC reads C and D alone of the flags: whatever the others are, it answers the same byte, writes
the same C and V, and ends in SetZN of its result. -/
theorem sbc_form (a v : Byte) (c d : Bool) :
    ∃ r c' v', ∀ f : Flags, f.c = c → f.d = d →
      sbc a v f = (r, setZN r { f with c := c', v := v' }) := by
  let f₀ : Flags := { c := c, z := false, i := false, d := d, b := false, v := false, n := false }
  refine ⟨(sbc a v f₀).1, (sbc a v f₀).2.c, (sbc a v f₀).2.v, ?_⟩
  rintro ⟨fc, fz, fi, fd, fb, fv, fn⟩ rfl rfl
  cases fd
  · rfl
  · simp only [sbc, sbcDec, f₀, if_true]
    split <;> split <;> rfl

@[simp] theorem adc_i (a v : Byte) (f : Flags) : (adc a v f).2.i = f.i := by
  obtain ⟨_, _, _, h⟩ := adc_form a v f.c f.d
  rw [h f rfl rfl]; rfl
@[simp] theorem adc_d (a v : Byte) (f : Flags) : (adc a v f).2.d = f.d := by
  obtain ⟨_, _, _, h⟩ := adc_form a v f.c f.d
  rw [h f rfl rfl]; rfl
@[simp] theorem adc_b (a v : Byte) (f : Flags) : (adc a v f).2.b = f.b := by
  obtain ⟨_, _, _, h⟩ := adc_form a v f.c f.d
  rw [h f rfl rfl]; rfl
@[simp] theorem sbc_i (a v : Byte) (f : Flags) : (sbc a v f).2.i = f.i := by
  obtain ⟨_, _, _, h⟩ := sbc_form a v f.c f.d
  rw [h f rfl rfl]; rfl
@[simp] theorem sbc_d (a v : Byte) (f : Flags) : (sbc a v f).2.d = f.d := by
  obtain ⟨_, _, _, h⟩ := sbc_form a v f.c f.d
  rw [h f rfl rfl]; rfl
@[simp] theorem sbc_b (a v : Byte) (f : Flags) : (sbc a v f).2.b = f.b := by
  obtain ⟨_, _, _, h⟩ := sbc_form a v f.c f.d
  rw [h f rfl rfl]; rfl

end Sys2Proof.Machine
end

