-- ==== Sys2Proof/Laws/Patterns.lean ====
section
/-! SUPPORT. What each shared pattern of the instruction meanings leaves in every field of the state
(spec/44_shift_rotate.md, spec/45_branch_jump.md, spec/47_illegal.md): cite these and unfold no
pattern. -/

namespace Sys2Proof.Machine

@[simp] theorem lda_a (v : Byte) (s : State) : (lda v s).a = v := rfl
@[simp] theorem lda_x (v : Byte) (s : State) : (lda v s).x = s.x := rfl
@[simp] theorem lda_y (v : Byte) (s : State) : (lda v s).y = s.y := rfl
@[simp] theorem lda_sp (v : Byte) (s : State) : (lda v s).sp = s.sp := rfl
@[simp] theorem lda_pc (v : Byte) (s : State) : (lda v s).pc = s.pc := rfl
@[simp] theorem lda_flags (v : Byte) (s : State) : (lda v s).flags = setZN v s.flags := rfl
@[simp] theorem lda_mem (v : Byte) (s : State) : (lda v s).mem = s.mem := rfl
@[simp] theorem lda_config (v : Byte) (s : State) : (lda v s).config = s.config := rfl

@[simp] theorem ldx_a (v : Byte) (s : State) : (ldx v s).a = s.a := rfl
@[simp] theorem ldx_x (v : Byte) (s : State) : (ldx v s).x = v := rfl
@[simp] theorem ldx_y (v : Byte) (s : State) : (ldx v s).y = s.y := rfl
@[simp] theorem ldx_sp (v : Byte) (s : State) : (ldx v s).sp = s.sp := rfl
@[simp] theorem ldx_pc (v : Byte) (s : State) : (ldx v s).pc = s.pc := rfl
@[simp] theorem ldx_flags (v : Byte) (s : State) : (ldx v s).flags = setZN v s.flags := rfl
@[simp] theorem ldx_mem (v : Byte) (s : State) : (ldx v s).mem = s.mem := rfl
@[simp] theorem ldx_config (v : Byte) (s : State) : (ldx v s).config = s.config := rfl

@[simp] theorem ldy_a (v : Byte) (s : State) : (ldy v s).a = s.a := rfl
@[simp] theorem ldy_x (v : Byte) (s : State) : (ldy v s).x = s.x := rfl
@[simp] theorem ldy_y (v : Byte) (s : State) : (ldy v s).y = v := rfl
@[simp] theorem ldy_sp (v : Byte) (s : State) : (ldy v s).sp = s.sp := rfl
@[simp] theorem ldy_pc (v : Byte) (s : State) : (ldy v s).pc = s.pc := rfl
@[simp] theorem ldy_flags (v : Byte) (s : State) : (ldy v s).flags = setZN v s.flags := rfl
@[simp] theorem ldy_mem (v : Byte) (s : State) : (ldy v s).mem = s.mem := rfl
@[simp] theorem ldy_config (v : Byte) (s : State) : (ldy v s).config = s.config := rfl

@[simp] theorem lax_a (v : Byte) (s : State) : (lax v s).a = v := rfl
@[simp] theorem lax_x (v : Byte) (s : State) : (lax v s).x = v := rfl
@[simp] theorem lax_y (v : Byte) (s : State) : (lax v s).y = s.y := rfl
@[simp] theorem lax_sp (v : Byte) (s : State) : (lax v s).sp = s.sp := rfl
@[simp] theorem lax_pc (v : Byte) (s : State) : (lax v s).pc = s.pc := rfl
@[simp] theorem lax_flags (v : Byte) (s : State) : (lax v s).flags = setZN v s.flags := rfl
@[simp] theorem lax_mem (v : Byte) (s : State) : (lax v s).mem = s.mem := rfl
@[simp] theorem lax_config (v : Byte) (s : State) : (lax v s).config = s.config := rfl

@[simp] theorem store_a (m : MemMode) (v : Byte) (s : State) : (store m v s).a = s.a := rfl
@[simp] theorem store_x (m : MemMode) (v : Byte) (s : State) : (store m v s).x = s.x := rfl
@[simp] theorem store_y (m : MemMode) (v : Byte) (s : State) : (store m v s).y = s.y := rfl
@[simp] theorem store_sp (m : MemMode) (v : Byte) (s : State) : (store m v s).sp = s.sp := rfl
@[simp] theorem store_pc (m : MemMode) (v : Byte) (s : State) : (store m v s).pc = s.pc := rfl
@[simp] theorem store_flags (m : MemMode) (v : Byte) (s : State) :
    (store m v s).flags = s.flags := rfl
@[simp] theorem store_mem (m : MemMode) (v : Byte) (s : State) :
    (store m v s).mem = (writeByte s (ea m s) v).mem := rfl
@[simp] theorem store_config (m : MemMode) (v : Byte) (s : State) :
    (store m v s).config = s.config := rfl

@[simp] theorem cmpReg_a (r v : Byte) (s : State) : (cmpReg r v s).a = s.a := rfl
@[simp] theorem cmpReg_x (r v : Byte) (s : State) : (cmpReg r v s).x = s.x := rfl
@[simp] theorem cmpReg_y (r v : Byte) (s : State) : (cmpReg r v s).y = s.y := rfl
@[simp] theorem cmpReg_sp (r v : Byte) (s : State) : (cmpReg r v s).sp = s.sp := rfl
@[simp] theorem cmpReg_pc (r v : Byte) (s : State) : (cmpReg r v s).pc = s.pc := rfl
@[simp] theorem cmpReg_flags (r v : Byte) (s : State) :
    (cmpReg r v s).flags = compareReg r v s.flags := rfl
@[simp] theorem cmpReg_mem (r v : Byte) (s : State) : (cmpReg r v s).mem = s.mem := rfl
@[simp] theorem cmpReg_config (r v : Byte) (s : State) : (cmpReg r v s).config = s.config := rfl

@[simp] theorem bitMem_a (v : Byte) (s : State) : (bitMem v s).a = s.a := rfl
@[simp] theorem bitMem_x (v : Byte) (s : State) : (bitMem v s).x = s.x := rfl
@[simp] theorem bitMem_y (v : Byte) (s : State) : (bitMem v s).y = s.y := rfl
@[simp] theorem bitMem_sp (v : Byte) (s : State) : (bitMem v s).sp = s.sp := rfl
@[simp] theorem bitMem_pc (v : Byte) (s : State) : (bitMem v s).pc = s.pc := rfl
@[simp] theorem bitMem_flags (v : Byte) (s : State) :
    (bitMem v s).flags = bitTest s.a v s.flags := rfl
@[simp] theorem bitMem_mem (v : Byte) (s : State) : (bitMem v s).mem = s.mem := rfl
@[simp] theorem bitMem_config (v : Byte) (s : State) : (bitMem v s).config = s.config := rfl

@[simp] theorem accOp_a (f : Binary) (v : Byte) (s : State) :
    (accOp f v s).a = (f s.a v s.flags).1 := rfl
@[simp] theorem accOp_x (f : Binary) (v : Byte) (s : State) : (accOp f v s).x = s.x := rfl
@[simp] theorem accOp_y (f : Binary) (v : Byte) (s : State) : (accOp f v s).y = s.y := rfl
@[simp] theorem accOp_sp (f : Binary) (v : Byte) (s : State) : (accOp f v s).sp = s.sp := rfl
@[simp] theorem accOp_pc (f : Binary) (v : Byte) (s : State) : (accOp f v s).pc = s.pc := rfl
@[simp] theorem accOp_flags (f : Binary) (v : Byte) (s : State) :
    (accOp f v s).flags = (f s.a v s.flags).2 := rfl
@[simp] theorem accOp_mem (f : Binary) (v : Byte) (s : State) : (accOp f v s).mem = s.mem := rfl
@[simp] theorem accOp_config (f : Binary) (v : Byte) (s : State) :
    (accOp f v s).config = s.config := rfl

@[simp] theorem rmwAcc_a (f : Unary) (s : State) : (rmwAcc f s).a = (f s.a s.flags).1 := rfl
@[simp] theorem rmwAcc_x (f : Unary) (s : State) : (rmwAcc f s).x = s.x := rfl
@[simp] theorem rmwAcc_y (f : Unary) (s : State) : (rmwAcc f s).y = s.y := rfl
@[simp] theorem rmwAcc_sp (f : Unary) (s : State) : (rmwAcc f s).sp = s.sp := rfl
@[simp] theorem rmwAcc_pc (f : Unary) (s : State) : (rmwAcc f s).pc = s.pc := rfl
@[simp] theorem rmwAcc_flags (f : Unary) (s : State) : (rmwAcc f s).flags = (f s.a s.flags).2 := rfl
@[simp] theorem rmwAcc_mem (f : Unary) (s : State) : (rmwAcc f s).mem = s.mem := rfl
@[simp] theorem rmwAcc_config (f : Unary) (s : State) : (rmwAcc f s).config = s.config := rfl

@[simp] theorem rmwMem_a (f : Unary) (m : MemMode) (s : State) : (rmwMem f m s).a = s.a := rfl
@[simp] theorem rmwMem_x (f : Unary) (m : MemMode) (s : State) : (rmwMem f m s).x = s.x := rfl
@[simp] theorem rmwMem_y (f : Unary) (m : MemMode) (s : State) : (rmwMem f m s).y = s.y := rfl
@[simp] theorem rmwMem_sp (f : Unary) (m : MemMode) (s : State) : (rmwMem f m s).sp = s.sp := rfl
@[simp] theorem rmwMem_pc (f : Unary) (m : MemMode) (s : State) : (rmwMem f m s).pc = s.pc := rfl
@[simp] theorem rmwMem_flags (f : Unary) (m : MemMode) (s : State) :
    (rmwMem f m s).flags = (f (memOperand m s) s.flags).2 := rfl
@[simp] theorem rmwMem_mem (f : Unary) (m : MemMode) (s : State) :
    (rmwMem f m s).mem = (writeByte s (ea m s) (f (memOperand m s) s.flags).1).mem := rfl
@[simp] theorem rmwMem_config (f : Unary) (m : MemMode) (s : State) :
    (rmwMem f m s).config = s.config := rfl

@[simp] theorem comboMem_a (f : Unary) (g : Binary) (m : MemMode) (s : State) :
    (comboMem f g m s).a =
      (g s.a (f (memOperand m s) s.flags).1 (f (memOperand m s) s.flags).2).1 := rfl
@[simp] theorem comboMem_x (f : Unary) (g : Binary) (m : MemMode) (s : State) :
    (comboMem f g m s).x = s.x := rfl
@[simp] theorem comboMem_y (f : Unary) (g : Binary) (m : MemMode) (s : State) :
    (comboMem f g m s).y = s.y := rfl
@[simp] theorem comboMem_sp (f : Unary) (g : Binary) (m : MemMode) (s : State) :
    (comboMem f g m s).sp = s.sp := rfl
@[simp] theorem comboMem_pc (f : Unary) (g : Binary) (m : MemMode) (s : State) :
    (comboMem f g m s).pc = s.pc := rfl
@[simp] theorem comboMem_flags (f : Unary) (g : Binary) (m : MemMode) (s : State) :
    (comboMem f g m s).flags =
      (g s.a (f (memOperand m s) s.flags).1 (f (memOperand m s) s.flags).2).2 := rfl
@[simp] theorem comboMem_mem (f : Unary) (g : Binary) (m : MemMode) (s : State) :
    (comboMem f g m s).mem = (rmwMem f m s).mem := rfl
@[simp] theorem comboMem_config (f : Unary) (g : Binary) (m : MemMode) (s : State) :
    (comboMem f g m s).config = s.config := rfl

@[simp] theorem branchIf_a (c : Bool) (b : Byte) (s : State) :
    (branchIf c b s).a = s.a := by
  unfold branchIf
  split <;> rfl
@[simp] theorem branchIf_x (c : Bool) (b : Byte) (s : State) :
    (branchIf c b s).x = s.x := by
  unfold branchIf
  split <;> rfl
@[simp] theorem branchIf_y (c : Bool) (b : Byte) (s : State) :
    (branchIf c b s).y = s.y := by
  unfold branchIf
  split <;> rfl
@[simp] theorem branchIf_sp (c : Bool) (b : Byte) (s : State) :
    (branchIf c b s).sp = s.sp := by
  unfold branchIf
  split <;> rfl
@[simp] theorem branchIf_flags (c : Bool) (b : Byte) (s : State) :
    (branchIf c b s).flags = s.flags := by
  unfold branchIf
  split <;> rfl
@[simp] theorem branchIf_mem (c : Bool) (b : Byte) (s : State) :
    (branchIf c b s).mem = s.mem := by
  unfold branchIf
  split <;> rfl
@[simp] theorem branchIf_config (c : Bool) (b : Byte) (s : State) :
    (branchIf c b s).config = s.config := by
  unfold branchIf
  split <;> rfl
@[simp] theorem branchIf_pc (c : Bool) (b : Byte) (s : State) :
    (branchIf c b s).pc = if c then branchTarget b s else s.pc := by
  unfold branchIf
  split <;> rfl

/-! ## BRK and RTI -/

@[simp] theorem takeBreak_a (s : State) :
    (takeBreak s).a = s.a := by
  simp [takeBreak, pushWord]
@[simp] theorem takeBreak_x (s : State) :
    (takeBreak s).x = s.x := by
  simp [takeBreak, pushWord]
@[simp] theorem takeBreak_y (s : State) :
    (takeBreak s).y = s.y := by
  simp [takeBreak, pushWord]
@[simp] theorem takeBreak_sp (s : State) :
    (takeBreak s).sp = s.sp - 1#8 - 1#8 - 1#8 := by
  simp [takeBreak, pushWord]
@[simp] theorem takeBreak_flags (s : State) :
    (takeBreak s).flags = { s.flags with b := true, i := true } := by
  simp [takeBreak, pushWord]

@[simp] theorem returnFromInterrupt_a (s : State) :
    (returnFromInterrupt s).a = s.a := by
  simp [returnFromInterrupt]
@[simp] theorem returnFromInterrupt_x (s : State) :
    (returnFromInterrupt s).x = s.x := by
  simp [returnFromInterrupt]
@[simp] theorem returnFromInterrupt_y (s : State) :
    (returnFromInterrupt s).y = s.y := by
  simp [returnFromInterrupt]
@[simp] theorem returnFromInterrupt_sp (s : State) :
    (returnFromInterrupt s).sp = s.sp + 1#8 + 1#8 + 1#8 := by
  simp [returnFromInterrupt]
@[simp] theorem returnFromInterrupt_flags (s : State) :
    (returnFromInterrupt s).flags = decodeStatus (pop s).1 := by
  simp [returnFromInterrupt]

end Sys2Proof.Machine

namespace Sys2Proof.Laws

open Sys2Proof.Machine

/-! ## The effects by mode: a field that each case leaves alone stays as it was -/

@[simp] theorem onCell_store_a (v : Byte) (mode : Mode) (s : State) :
    (onCell (fun m => store m v) mode s).a = s.a := by
  cases mode <;> rfl
@[simp] theorem onCell_rmwMem_a (f : Unary) (mode : Mode) (s : State) :
    (onCell (rmwMem f) mode s).a = s.a := by
  cases mode <;> rfl
@[simp] theorem onCell_store_x (v : Byte) (mode : Mode) (s : State) :
    (onCell (fun m => store m v) mode s).x = s.x := by
  cases mode <;> rfl
@[simp] theorem onCell_rmwMem_x (f : Unary) (mode : Mode) (s : State) :
    (onCell (rmwMem f) mode s).x = s.x := by
  cases mode <;> rfl
@[simp] theorem onCell_comboMem_x (f : Unary) (g : Binary) (mode : Mode) (s : State) :
    (onCell (comboMem f g) mode s).x = s.x := by
  cases mode <;> rfl
@[simp] theorem onCell_store_y (v : Byte) (mode : Mode) (s : State) :
    (onCell (fun m => store m v) mode s).y = s.y := by
  cases mode <;> rfl
@[simp] theorem onCell_rmwMem_y (f : Unary) (mode : Mode) (s : State) :
    (onCell (rmwMem f) mode s).y = s.y := by
  cases mode <;> rfl
@[simp] theorem onCell_comboMem_y (f : Unary) (g : Binary) (mode : Mode) (s : State) :
    (onCell (comboMem f g) mode s).y = s.y := by
  cases mode <;> rfl
@[simp] theorem onCell_store_sp (v : Byte) (mode : Mode) (s : State) :
    (onCell (fun m => store m v) mode s).sp = s.sp := by
  cases mode <;> rfl
@[simp] theorem onCell_rmwMem_sp (f : Unary) (mode : Mode) (s : State) :
    (onCell (rmwMem f) mode s).sp = s.sp := by
  cases mode <;> rfl
@[simp] theorem onCell_comboMem_sp (f : Unary) (g : Binary) (mode : Mode) (s : State) :
    (onCell (comboMem f g) mode s).sp = s.sp := by
  cases mode <;> rfl
@[simp] theorem onCell_store_pc (v : Byte) (mode : Mode) (s : State) :
    (onCell (fun m => store m v) mode s).pc = s.pc := by
  cases mode <;> rfl
@[simp] theorem onCell_rmwMem_pc (f : Unary) (mode : Mode) (s : State) :
    (onCell (rmwMem f) mode s).pc = s.pc := by
  cases mode <;> rfl
@[simp] theorem onCell_comboMem_pc (f : Unary) (g : Binary) (mode : Mode) (s : State) :
    (onCell (comboMem f g) mode s).pc = s.pc := by
  cases mode <;> rfl
@[simp] theorem onCell_store_flags (v : Byte) (mode : Mode) (s : State) :
    (onCell (fun m => store m v) mode s).flags = s.flags := by
  cases mode <;> rfl
@[simp] theorem onCell_store_config (v : Byte) (mode : Mode) (s : State) :
    (onCell (fun m => store m v) mode s).config = s.config := by
  cases mode <;> rfl
@[simp] theorem onCell_rmwMem_config (f : Unary) (mode : Mode) (s : State) :
    (onCell (rmwMem f) mode s).config = s.config := by
  cases mode <;> rfl
@[simp] theorem onCell_comboMem_config (f : Unary) (g : Binary) (mode : Mode) (s : State) :
    (onCell (comboMem f g) mode s).config = s.config := by
  cases mode <;> rfl
@[simp] theorem onTarget_x (f : Unary) (mode : Mode) (s : State) :
    (onTarget f mode s).x = s.x := by
  cases mode <;> rfl
@[simp] theorem onTarget_y (f : Unary) (mode : Mode) (s : State) :
    (onTarget f mode s).y = s.y := by
  cases mode <;> rfl
@[simp] theorem onTarget_sp (f : Unary) (mode : Mode) (s : State) :
    (onTarget f mode s).sp = s.sp := by
  cases mode <;> rfl
@[simp] theorem onTarget_pc (f : Unary) (mode : Mode) (s : State) :
    (onTarget f mode s).pc = s.pc := by
  cases mode <;> rfl
@[simp] theorem onTarget_config (f : Unary) (mode : Mode) (s : State) :
    (onTarget f mode s).config = s.config := by
  cases mode <;> rfl
@[simp] theorem onBranch_a (c : Bool) (mode : Mode) (s : State) :
    (onBranch c mode s).a = s.a := by
  cases mode <;> first | rfl | exact branchIf_a _ _ _
@[simp] theorem onBranch_x (c : Bool) (mode : Mode) (s : State) :
    (onBranch c mode s).x = s.x := by
  cases mode <;> first | rfl | exact branchIf_x _ _ _
@[simp] theorem onBranch_y (c : Bool) (mode : Mode) (s : State) :
    (onBranch c mode s).y = s.y := by
  cases mode <;> first | rfl | exact branchIf_y _ _ _
@[simp] theorem onBranch_sp (c : Bool) (mode : Mode) (s : State) :
    (onBranch c mode s).sp = s.sp := by
  cases mode <;> first | rfl | exact branchIf_sp _ _ _
@[simp] theorem onBranch_flags (c : Bool) (mode : Mode) (s : State) :
    (onBranch c mode s).flags = s.flags := by
  cases mode <;> first | rfl | exact branchIf_flags _ _ _
@[simp] theorem onBranch_mem (c : Bool) (mode : Mode) (s : State) :
    (onBranch c mode s).mem = s.mem := by
  cases mode <;> first | rfl | exact branchIf_mem _ _ _
@[simp] theorem onBranch_config (c : Bool) (mode : Mode) (s : State) :
    (onBranch c mode s).config = s.config := by
  cases mode <;> first | rfl | exact branchIf_config _ _ _
@[simp] theorem onJump_a (mode : Mode) (s : State) : (onJump mode s).a = s.a := by
  cases mode <;> rfl
@[simp] theorem onJump_x (mode : Mode) (s : State) : (onJump mode s).x = s.x := by
  cases mode <;> rfl
@[simp] theorem onJump_y (mode : Mode) (s : State) : (onJump mode s).y = s.y := by
  cases mode <;> rfl
@[simp] theorem onJump_sp (mode : Mode) (s : State) : (onJump mode s).sp = s.sp := by
  cases mode <;> rfl
@[simp] theorem onJump_flags (mode : Mode) (s : State) : (onJump mode s).flags = s.flags := by
  cases mode <;> rfl
@[simp] theorem onJump_mem (mode : Mode) (s : State) : (onJump mode s).mem = s.mem := by
  cases mode <;> rfl
@[simp] theorem onJump_config (mode : Mode) (s : State) : (onJump mode s).config = s.config := by
  cases mode <;> rfl
@[simp] theorem onCall_a (mode : Mode) (s : State) : (onCall mode s).a = s.a := by
  cases mode <;> rfl
@[simp] theorem onCall_x (mode : Mode) (s : State) : (onCall mode s).x = s.x := by
  cases mode <;> rfl
@[simp] theorem onCall_y (mode : Mode) (s : State) : (onCall mode s).y = s.y := by
  cases mode <;> rfl
@[simp] theorem onCall_flags (mode : Mode) (s : State) : (onCall mode s).flags = s.flags := by
  cases mode <;> rfl
@[simp] theorem onCall_config (mode : Mode) (s : State) : (onCall mode s).config = s.config := by
  cases mode <;> rfl

end Sys2Proof.Laws
end

