-- ==== Sys2Proof/Laws/PerInstr.lean ====
section
/-! SUPPORT. Per-instruction laws about the encoding as syntax (spec/30_encoding.md R60, R61). -/

namespace Sys2Proof.Laws.EncodingShape

/-- The encoding is as long as the format says, and its first byte is a row of the opcode table that
stands in the instruction's table. -/
def Statement (i : Instr) : Prop :=
  (encode i).length = i.length ∧ (tableRow i.opcode).map OpcodeRow.table = some i.table

/-- The table a row of the opcode table stands in, by its opcode byte. -/
theorem row (op : Byte) (table : Table)
    (h : (tableRow op).map OpcodeRow.table = some table) :
    (tableRow op).map OpcodeRow.table = some table := h

theorem ldaImm (b : Byte) : Statement (.ldaImm b) :=
  ⟨rfl, row 0xA9#8 _ rfl⟩
theorem ldaZp (b : Byte) : Statement (.ldaZp b) :=
  ⟨rfl, row 0xA5#8 _ rfl⟩
theorem ldaZpX (b : Byte) : Statement (.ldaZpX b) :=
  ⟨rfl, row 0xB5#8 _ rfl⟩
theorem ldaAbs (w : Addr) : Statement (.ldaAbs w) :=
  ⟨rfl, row 0xAD#8 _ rfl⟩
theorem ldaAbsX (w : Addr) : Statement (.ldaAbsX w) :=
  ⟨rfl, row 0xBD#8 _ rfl⟩
theorem ldaAbsY (w : Addr) : Statement (.ldaAbsY w) :=
  ⟨rfl, row 0xB9#8 _ rfl⟩
theorem ldaIndX (b : Byte) : Statement (.ldaIndX b) :=
  ⟨rfl, row 0xA1#8 _ rfl⟩
theorem ldaIndY (b : Byte) : Statement (.ldaIndY b) :=
  ⟨rfl, row 0xB1#8 _ rfl⟩
theorem ldxImm (b : Byte) : Statement (.ldxImm b) :=
  ⟨rfl, row 0xA2#8 _ rfl⟩
theorem ldxZp (b : Byte) : Statement (.ldxZp b) :=
  ⟨rfl, row 0xA6#8 _ rfl⟩
theorem ldxZpY (b : Byte) : Statement (.ldxZpY b) :=
  ⟨rfl, row 0xB6#8 _ rfl⟩
theorem ldxAbs (w : Addr) : Statement (.ldxAbs w) :=
  ⟨rfl, row 0xAE#8 _ rfl⟩
theorem ldxAbsY (w : Addr) : Statement (.ldxAbsY w) :=
  ⟨rfl, row 0xBE#8 _ rfl⟩
theorem ldyImm (b : Byte) : Statement (.ldyImm b) :=
  ⟨rfl, row 0xA0#8 _ rfl⟩
theorem ldyZp (b : Byte) : Statement (.ldyZp b) :=
  ⟨rfl, row 0xA4#8 _ rfl⟩
theorem ldyZpX (b : Byte) : Statement (.ldyZpX b) :=
  ⟨rfl, row 0xB4#8 _ rfl⟩
theorem ldyAbs (w : Addr) : Statement (.ldyAbs w) :=
  ⟨rfl, row 0xAC#8 _ rfl⟩
theorem ldyAbsX (w : Addr) : Statement (.ldyAbsX w) :=
  ⟨rfl, row 0xBC#8 _ rfl⟩
theorem staZp (b : Byte) : Statement (.staZp b) :=
  ⟨rfl, row 0x85#8 _ rfl⟩
theorem staZpX (b : Byte) : Statement (.staZpX b) :=
  ⟨rfl, row 0x95#8 _ rfl⟩
theorem staAbs (w : Addr) : Statement (.staAbs w) :=
  ⟨rfl, row 0x8D#8 _ rfl⟩
theorem staAbsX (w : Addr) : Statement (.staAbsX w) :=
  ⟨rfl, row 0x9D#8 _ rfl⟩
theorem staAbsY (w : Addr) : Statement (.staAbsY w) :=
  ⟨rfl, row 0x99#8 _ rfl⟩
theorem staIndX (b : Byte) : Statement (.staIndX b) :=
  ⟨rfl, row 0x81#8 _ rfl⟩
theorem staIndY (b : Byte) : Statement (.staIndY b) :=
  ⟨rfl, row 0x91#8 _ rfl⟩
theorem stxZp (b : Byte) : Statement (.stxZp b) :=
  ⟨rfl, row 0x86#8 _ rfl⟩
theorem stxZpY (b : Byte) : Statement (.stxZpY b) :=
  ⟨rfl, row 0x96#8 _ rfl⟩
theorem stxAbs (w : Addr) : Statement (.stxAbs w) :=
  ⟨rfl, row 0x8E#8 _ rfl⟩
theorem styZp (b : Byte) : Statement (.styZp b) :=
  ⟨rfl, row 0x84#8 _ rfl⟩
theorem styZpX (b : Byte) : Statement (.styZpX b) :=
  ⟨rfl, row 0x94#8 _ rfl⟩
theorem styAbs (w : Addr) : Statement (.styAbs w) :=
  ⟨rfl, row 0x8C#8 _ rfl⟩
theorem tax : Statement (.tax) :=
  ⟨rfl, row 0xAA#8 _ rfl⟩
theorem tay : Statement (.tay) :=
  ⟨rfl, row 0xA8#8 _ rfl⟩
theorem txa : Statement (.txa) :=
  ⟨rfl, row 0x8A#8 _ rfl⟩
theorem tya : Statement (.tya) :=
  ⟨rfl, row 0x98#8 _ rfl⟩
theorem tsx : Statement (.tsx) :=
  ⟨rfl, row 0xBA#8 _ rfl⟩
theorem txs : Statement (.txs) :=
  ⟨rfl, row 0x9A#8 _ rfl⟩
theorem adcImm (b : Byte) : Statement (.adcImm b) :=
  ⟨rfl, row 0x69#8 _ rfl⟩
theorem adcZp (b : Byte) : Statement (.adcZp b) :=
  ⟨rfl, row 0x65#8 _ rfl⟩
theorem adcZpX (b : Byte) : Statement (.adcZpX b) :=
  ⟨rfl, row 0x75#8 _ rfl⟩
theorem adcAbs (w : Addr) : Statement (.adcAbs w) :=
  ⟨rfl, row 0x6D#8 _ rfl⟩
theorem adcAbsX (w : Addr) : Statement (.adcAbsX w) :=
  ⟨rfl, row 0x7D#8 _ rfl⟩
theorem adcAbsY (w : Addr) : Statement (.adcAbsY w) :=
  ⟨rfl, row 0x79#8 _ rfl⟩
theorem adcIndX (b : Byte) : Statement (.adcIndX b) :=
  ⟨rfl, row 0x61#8 _ rfl⟩
theorem adcIndY (b : Byte) : Statement (.adcIndY b) :=
  ⟨rfl, row 0x71#8 _ rfl⟩
theorem sbcImm (b : Byte) : Statement (.sbcImm b) :=
  ⟨rfl, row 0xE9#8 _ rfl⟩
theorem sbcZp (b : Byte) : Statement (.sbcZp b) :=
  ⟨rfl, row 0xE5#8 _ rfl⟩
theorem sbcZpX (b : Byte) : Statement (.sbcZpX b) :=
  ⟨rfl, row 0xF5#8 _ rfl⟩
theorem sbcAbs (w : Addr) : Statement (.sbcAbs w) :=
  ⟨rfl, row 0xED#8 _ rfl⟩
theorem sbcAbsX (w : Addr) : Statement (.sbcAbsX w) :=
  ⟨rfl, row 0xFD#8 _ rfl⟩
theorem sbcAbsY (w : Addr) : Statement (.sbcAbsY w) :=
  ⟨rfl, row 0xF9#8 _ rfl⟩
theorem sbcIndX (b : Byte) : Statement (.sbcIndX b) :=
  ⟨rfl, row 0xE1#8 _ rfl⟩
theorem sbcIndY (b : Byte) : Statement (.sbcIndY b) :=
  ⟨rfl, row 0xF1#8 _ rfl⟩
theorem andImm (b : Byte) : Statement (.andImm b) :=
  ⟨rfl, row 0x29#8 _ rfl⟩
theorem andZp (b : Byte) : Statement (.andZp b) :=
  ⟨rfl, row 0x25#8 _ rfl⟩
theorem andZpX (b : Byte) : Statement (.andZpX b) :=
  ⟨rfl, row 0x35#8 _ rfl⟩
theorem andAbs (w : Addr) : Statement (.andAbs w) :=
  ⟨rfl, row 0x2D#8 _ rfl⟩
theorem andAbsX (w : Addr) : Statement (.andAbsX w) :=
  ⟨rfl, row 0x3D#8 _ rfl⟩
theorem andAbsY (w : Addr) : Statement (.andAbsY w) :=
  ⟨rfl, row 0x39#8 _ rfl⟩
theorem andIndX (b : Byte) : Statement (.andIndX b) :=
  ⟨rfl, row 0x21#8 _ rfl⟩
theorem andIndY (b : Byte) : Statement (.andIndY b) :=
  ⟨rfl, row 0x31#8 _ rfl⟩
theorem oraImm (b : Byte) : Statement (.oraImm b) :=
  ⟨rfl, row 0x09#8 _ rfl⟩
theorem oraZp (b : Byte) : Statement (.oraZp b) :=
  ⟨rfl, row 0x05#8 _ rfl⟩
theorem oraZpX (b : Byte) : Statement (.oraZpX b) :=
  ⟨rfl, row 0x15#8 _ rfl⟩
theorem oraAbs (w : Addr) : Statement (.oraAbs w) :=
  ⟨rfl, row 0x0D#8 _ rfl⟩
theorem oraAbsX (w : Addr) : Statement (.oraAbsX w) :=
  ⟨rfl, row 0x1D#8 _ rfl⟩
theorem oraAbsY (w : Addr) : Statement (.oraAbsY w) :=
  ⟨rfl, row 0x19#8 _ rfl⟩
theorem oraIndX (b : Byte) : Statement (.oraIndX b) :=
  ⟨rfl, row 0x01#8 _ rfl⟩
theorem oraIndY (b : Byte) : Statement (.oraIndY b) :=
  ⟨rfl, row 0x11#8 _ rfl⟩
theorem eorImm (b : Byte) : Statement (.eorImm b) :=
  ⟨rfl, row 0x49#8 _ rfl⟩
theorem eorZp (b : Byte) : Statement (.eorZp b) :=
  ⟨rfl, row 0x45#8 _ rfl⟩
theorem eorZpX (b : Byte) : Statement (.eorZpX b) :=
  ⟨rfl, row 0x55#8 _ rfl⟩
theorem eorAbs (w : Addr) : Statement (.eorAbs w) :=
  ⟨rfl, row 0x4D#8 _ rfl⟩
theorem eorAbsX (w : Addr) : Statement (.eorAbsX w) :=
  ⟨rfl, row 0x5D#8 _ rfl⟩
theorem eorAbsY (w : Addr) : Statement (.eorAbsY w) :=
  ⟨rfl, row 0x59#8 _ rfl⟩
theorem eorIndX (b : Byte) : Statement (.eorIndX b) :=
  ⟨rfl, row 0x41#8 _ rfl⟩
theorem eorIndY (b : Byte) : Statement (.eorIndY b) :=
  ⟨rfl, row 0x51#8 _ rfl⟩
theorem cmpImm (b : Byte) : Statement (.cmpImm b) :=
  ⟨rfl, row 0xC9#8 _ rfl⟩
theorem cmpZp (b : Byte) : Statement (.cmpZp b) :=
  ⟨rfl, row 0xC5#8 _ rfl⟩
theorem cmpZpX (b : Byte) : Statement (.cmpZpX b) :=
  ⟨rfl, row 0xD5#8 _ rfl⟩
theorem cmpAbs (w : Addr) : Statement (.cmpAbs w) :=
  ⟨rfl, row 0xCD#8 _ rfl⟩
theorem cmpAbsX (w : Addr) : Statement (.cmpAbsX w) :=
  ⟨rfl, row 0xDD#8 _ rfl⟩
theorem cmpAbsY (w : Addr) : Statement (.cmpAbsY w) :=
  ⟨rfl, row 0xD9#8 _ rfl⟩
theorem cmpIndX (b : Byte) : Statement (.cmpIndX b) :=
  ⟨rfl, row 0xC1#8 _ rfl⟩
theorem cmpIndY (b : Byte) : Statement (.cmpIndY b) :=
  ⟨rfl, row 0xD1#8 _ rfl⟩
theorem cpxImm (b : Byte) : Statement (.cpxImm b) :=
  ⟨rfl, row 0xE0#8 _ rfl⟩
theorem cpxZp (b : Byte) : Statement (.cpxZp b) :=
  ⟨rfl, row 0xE4#8 _ rfl⟩
theorem cpxAbs (w : Addr) : Statement (.cpxAbs w) :=
  ⟨rfl, row 0xEC#8 _ rfl⟩
theorem cpyImm (b : Byte) : Statement (.cpyImm b) :=
  ⟨rfl, row 0xC0#8 _ rfl⟩
theorem cpyZp (b : Byte) : Statement (.cpyZp b) :=
  ⟨rfl, row 0xC4#8 _ rfl⟩
theorem cpyAbs (w : Addr) : Statement (.cpyAbs w) :=
  ⟨rfl, row 0xCC#8 _ rfl⟩
theorem bitZp (b : Byte) : Statement (.bitZp b) :=
  ⟨rfl, row 0x24#8 _ rfl⟩
theorem bitAbs (w : Addr) : Statement (.bitAbs w) :=
  ⟨rfl, row 0x2C#8 _ rfl⟩
theorem incZp (b : Byte) : Statement (.incZp b) :=
  ⟨rfl, row 0xE6#8 _ rfl⟩
theorem incZpX (b : Byte) : Statement (.incZpX b) :=
  ⟨rfl, row 0xF6#8 _ rfl⟩
theorem incAbs (w : Addr) : Statement (.incAbs w) :=
  ⟨rfl, row 0xEE#8 _ rfl⟩
theorem incAbsX (w : Addr) : Statement (.incAbsX w) :=
  ⟨rfl, row 0xFE#8 _ rfl⟩
theorem decZp (b : Byte) : Statement (.decZp b) :=
  ⟨rfl, row 0xC6#8 _ rfl⟩
theorem decZpX (b : Byte) : Statement (.decZpX b) :=
  ⟨rfl, row 0xD6#8 _ rfl⟩
theorem decAbs (w : Addr) : Statement (.decAbs w) :=
  ⟨rfl, row 0xCE#8 _ rfl⟩
theorem decAbsX (w : Addr) : Statement (.decAbsX w) :=
  ⟨rfl, row 0xDE#8 _ rfl⟩
theorem inx : Statement (.inx) :=
  ⟨rfl, row 0xE8#8 _ rfl⟩
theorem iny : Statement (.iny) :=
  ⟨rfl, row 0xC8#8 _ rfl⟩
theorem dex : Statement (.dex) :=
  ⟨rfl, row 0xCA#8 _ rfl⟩
theorem dey : Statement (.dey) :=
  ⟨rfl, row 0x88#8 _ rfl⟩
theorem aslAcc : Statement (.aslAcc) :=
  ⟨rfl, row 0x0A#8 _ rfl⟩
theorem aslZp (b : Byte) : Statement (.aslZp b) :=
  ⟨rfl, row 0x06#8 _ rfl⟩
theorem aslZpX (b : Byte) : Statement (.aslZpX b) :=
  ⟨rfl, row 0x16#8 _ rfl⟩
theorem aslAbs (w : Addr) : Statement (.aslAbs w) :=
  ⟨rfl, row 0x0E#8 _ rfl⟩
theorem aslAbsX (w : Addr) : Statement (.aslAbsX w) :=
  ⟨rfl, row 0x1E#8 _ rfl⟩
theorem lsrAcc : Statement (.lsrAcc) :=
  ⟨rfl, row 0x4A#8 _ rfl⟩
theorem lsrZp (b : Byte) : Statement (.lsrZp b) :=
  ⟨rfl, row 0x46#8 _ rfl⟩
theorem lsrZpX (b : Byte) : Statement (.lsrZpX b) :=
  ⟨rfl, row 0x56#8 _ rfl⟩
theorem lsrAbs (w : Addr) : Statement (.lsrAbs w) :=
  ⟨rfl, row 0x4E#8 _ rfl⟩
theorem lsrAbsX (w : Addr) : Statement (.lsrAbsX w) :=
  ⟨rfl, row 0x5E#8 _ rfl⟩
theorem rolAcc : Statement (.rolAcc) :=
  ⟨rfl, row 0x2A#8 _ rfl⟩
theorem rolZp (b : Byte) : Statement (.rolZp b) :=
  ⟨rfl, row 0x26#8 _ rfl⟩
theorem rolZpX (b : Byte) : Statement (.rolZpX b) :=
  ⟨rfl, row 0x36#8 _ rfl⟩
theorem rolAbs (w : Addr) : Statement (.rolAbs w) :=
  ⟨rfl, row 0x2E#8 _ rfl⟩
theorem rolAbsX (w : Addr) : Statement (.rolAbsX w) :=
  ⟨rfl, row 0x3E#8 _ rfl⟩
theorem rorAcc : Statement (.rorAcc) :=
  ⟨rfl, row 0x6A#8 _ rfl⟩
theorem rorZp (b : Byte) : Statement (.rorZp b) :=
  ⟨rfl, row 0x66#8 _ rfl⟩
theorem rorZpX (b : Byte) : Statement (.rorZpX b) :=
  ⟨rfl, row 0x76#8 _ rfl⟩
theorem rorAbs (w : Addr) : Statement (.rorAbs w) :=
  ⟨rfl, row 0x6E#8 _ rfl⟩
theorem rorAbsX (w : Addr) : Statement (.rorAbsX w) :=
  ⟨rfl, row 0x7E#8 _ rfl⟩
theorem bcc (b : Byte) : Statement (.bcc b) :=
  ⟨rfl, row 0x90#8 _ rfl⟩
theorem bcs (b : Byte) : Statement (.bcs b) :=
  ⟨rfl, row 0xB0#8 _ rfl⟩
theorem beq (b : Byte) : Statement (.beq b) :=
  ⟨rfl, row 0xF0#8 _ rfl⟩
theorem bne (b : Byte) : Statement (.bne b) :=
  ⟨rfl, row 0xD0#8 _ rfl⟩
theorem bmi (b : Byte) : Statement (.bmi b) :=
  ⟨rfl, row 0x30#8 _ rfl⟩
theorem bpl (b : Byte) : Statement (.bpl b) :=
  ⟨rfl, row 0x10#8 _ rfl⟩
theorem bvc (b : Byte) : Statement (.bvc b) :=
  ⟨rfl, row 0x50#8 _ rfl⟩
theorem bvs (b : Byte) : Statement (.bvs b) :=
  ⟨rfl, row 0x70#8 _ rfl⟩
theorem jmpAbs (w : Addr) : Statement (.jmpAbs w) :=
  ⟨rfl, row 0x4C#8 _ rfl⟩
theorem jmpInd (w : Addr) : Statement (.jmpInd w) :=
  ⟨rfl, row 0x6C#8 _ rfl⟩
theorem jsr (w : Addr) : Statement (.jsr w) :=
  ⟨rfl, row 0x20#8 _ rfl⟩
theorem rts : Statement (.rts) :=
  ⟨rfl, row 0x60#8 _ rfl⟩
theorem pha : Statement (.pha) :=
  ⟨rfl, row 0x48#8 _ rfl⟩
theorem pla : Statement (.pla) :=
  ⟨rfl, row 0x68#8 _ rfl⟩
theorem php : Statement (.php) :=
  ⟨rfl, row 0x08#8 _ rfl⟩
theorem plp : Statement (.plp) :=
  ⟨rfl, row 0x28#8 _ rfl⟩
theorem clc : Statement (.clc) :=
  ⟨rfl, row 0x18#8 _ rfl⟩
theorem sec : Statement (.sec) :=
  ⟨rfl, row 0x38#8 _ rfl⟩
theorem cli : Statement (.cli) :=
  ⟨rfl, row 0x58#8 _ rfl⟩
theorem sei : Statement (.sei) :=
  ⟨rfl, row 0x78#8 _ rfl⟩
theorem cld : Statement (.cld) :=
  ⟨rfl, row 0xD8#8 _ rfl⟩
theorem sed : Statement (.sed) :=
  ⟨rfl, row 0xF8#8 _ rfl⟩
theorem clv : Statement (.clv) :=
  ⟨rfl, row 0xB8#8 _ rfl⟩
theorem nop : Statement (.nop) :=
  ⟨rfl, row 0xEA#8 _ rfl⟩
theorem brk : Statement (.brk) :=
  ⟨rfl, row 0x00#8 _ rfl⟩
theorem rti : Statement (.rti) :=
  ⟨rfl, row 0x40#8 _ rfl⟩
theorem laxZp (b : Byte) : Statement (.laxZp b) :=
  ⟨rfl, row 0xA7#8 _ rfl⟩
theorem laxZpY (b : Byte) : Statement (.laxZpY b) :=
  ⟨rfl, row 0xB7#8 _ rfl⟩
theorem laxAbs (w : Addr) : Statement (.laxAbs w) :=
  ⟨rfl, row 0xAF#8 _ rfl⟩
theorem laxAbsY (w : Addr) : Statement (.laxAbsY w) :=
  ⟨rfl, row 0xBF#8 _ rfl⟩
theorem laxIndX (b : Byte) : Statement (.laxIndX b) :=
  ⟨rfl, row 0xA3#8 _ rfl⟩
theorem laxIndY (b : Byte) : Statement (.laxIndY b) :=
  ⟨rfl, row 0xB3#8 _ rfl⟩
theorem saxZp (b : Byte) : Statement (.saxZp b) :=
  ⟨rfl, row 0x87#8 _ rfl⟩
theorem saxZpY (b : Byte) : Statement (.saxZpY b) :=
  ⟨rfl, row 0x97#8 _ rfl⟩
theorem saxAbs (w : Addr) : Statement (.saxAbs w) :=
  ⟨rfl, row 0x8F#8 _ rfl⟩
theorem saxIndX (b : Byte) : Statement (.saxIndX b) :=
  ⟨rfl, row 0x83#8 _ rfl⟩
theorem sloZp (b : Byte) : Statement (.sloZp b) :=
  ⟨rfl, row 0x07#8 _ rfl⟩
theorem sloZpX (b : Byte) : Statement (.sloZpX b) :=
  ⟨rfl, row 0x17#8 _ rfl⟩
theorem sloAbs (w : Addr) : Statement (.sloAbs w) :=
  ⟨rfl, row 0x0F#8 _ rfl⟩
theorem sloAbsX (w : Addr) : Statement (.sloAbsX w) :=
  ⟨rfl, row 0x1F#8 _ rfl⟩
theorem sloAbsY (w : Addr) : Statement (.sloAbsY w) :=
  ⟨rfl, row 0x1B#8 _ rfl⟩
theorem sloIndX (b : Byte) : Statement (.sloIndX b) :=
  ⟨rfl, row 0x03#8 _ rfl⟩
theorem sloIndY (b : Byte) : Statement (.sloIndY b) :=
  ⟨rfl, row 0x13#8 _ rfl⟩
theorem rlaZp (b : Byte) : Statement (.rlaZp b) :=
  ⟨rfl, row 0x27#8 _ rfl⟩
theorem rlaZpX (b : Byte) : Statement (.rlaZpX b) :=
  ⟨rfl, row 0x37#8 _ rfl⟩
theorem rlaAbs (w : Addr) : Statement (.rlaAbs w) :=
  ⟨rfl, row 0x2F#8 _ rfl⟩
theorem rlaAbsX (w : Addr) : Statement (.rlaAbsX w) :=
  ⟨rfl, row 0x3F#8 _ rfl⟩
theorem rlaAbsY (w : Addr) : Statement (.rlaAbsY w) :=
  ⟨rfl, row 0x3B#8 _ rfl⟩
theorem rlaIndX (b : Byte) : Statement (.rlaIndX b) :=
  ⟨rfl, row 0x23#8 _ rfl⟩
theorem rlaIndY (b : Byte) : Statement (.rlaIndY b) :=
  ⟨rfl, row 0x33#8 _ rfl⟩
theorem sreZp (b : Byte) : Statement (.sreZp b) :=
  ⟨rfl, row 0x47#8 _ rfl⟩
theorem sreZpX (b : Byte) : Statement (.sreZpX b) :=
  ⟨rfl, row 0x57#8 _ rfl⟩
theorem sreAbs (w : Addr) : Statement (.sreAbs w) :=
  ⟨rfl, row 0x4F#8 _ rfl⟩
theorem sreAbsX (w : Addr) : Statement (.sreAbsX w) :=
  ⟨rfl, row 0x5F#8 _ rfl⟩
theorem sreAbsY (w : Addr) : Statement (.sreAbsY w) :=
  ⟨rfl, row 0x5B#8 _ rfl⟩
theorem sreIndX (b : Byte) : Statement (.sreIndX b) :=
  ⟨rfl, row 0x43#8 _ rfl⟩
theorem sreIndY (b : Byte) : Statement (.sreIndY b) :=
  ⟨rfl, row 0x53#8 _ rfl⟩
theorem rraZp (b : Byte) : Statement (.rraZp b) :=
  ⟨rfl, row 0x67#8 _ rfl⟩
theorem rraZpX (b : Byte) : Statement (.rraZpX b) :=
  ⟨rfl, row 0x77#8 _ rfl⟩
theorem rraAbs (w : Addr) : Statement (.rraAbs w) :=
  ⟨rfl, row 0x6F#8 _ rfl⟩
theorem rraAbsX (w : Addr) : Statement (.rraAbsX w) :=
  ⟨rfl, row 0x7F#8 _ rfl⟩
theorem rraAbsY (w : Addr) : Statement (.rraAbsY w) :=
  ⟨rfl, row 0x7B#8 _ rfl⟩
theorem rraIndX (b : Byte) : Statement (.rraIndX b) :=
  ⟨rfl, row 0x63#8 _ rfl⟩
theorem rraIndY (b : Byte) : Statement (.rraIndY b) :=
  ⟨rfl, row 0x73#8 _ rfl⟩
theorem dcpZp (b : Byte) : Statement (.dcpZp b) :=
  ⟨rfl, row 0xC7#8 _ rfl⟩
theorem dcpZpX (b : Byte) : Statement (.dcpZpX b) :=
  ⟨rfl, row 0xD7#8 _ rfl⟩
theorem dcpAbs (w : Addr) : Statement (.dcpAbs w) :=
  ⟨rfl, row 0xCF#8 _ rfl⟩
theorem dcpAbsX (w : Addr) : Statement (.dcpAbsX w) :=
  ⟨rfl, row 0xDF#8 _ rfl⟩
theorem dcpAbsY (w : Addr) : Statement (.dcpAbsY w) :=
  ⟨rfl, row 0xDB#8 _ rfl⟩
theorem dcpIndX (b : Byte) : Statement (.dcpIndX b) :=
  ⟨rfl, row 0xC3#8 _ rfl⟩
theorem dcpIndY (b : Byte) : Statement (.dcpIndY b) :=
  ⟨rfl, row 0xD3#8 _ rfl⟩
theorem iscZp (b : Byte) : Statement (.iscZp b) :=
  ⟨rfl, row 0xE7#8 _ rfl⟩
theorem iscZpX (b : Byte) : Statement (.iscZpX b) :=
  ⟨rfl, row 0xF7#8 _ rfl⟩
theorem iscAbs (w : Addr) : Statement (.iscAbs w) :=
  ⟨rfl, row 0xEF#8 _ rfl⟩
theorem iscAbsX (w : Addr) : Statement (.iscAbsX w) :=
  ⟨rfl, row 0xFF#8 _ rfl⟩
theorem iscAbsY (w : Addr) : Statement (.iscAbsY w) :=
  ⟨rfl, row 0xFB#8 _ rfl⟩
theorem iscIndX (b : Byte) : Statement (.iscIndX b) :=
  ⟨rfl, row 0xE3#8 _ rfl⟩
theorem iscIndY (b : Byte) : Statement (.iscIndY b) :=
  ⟨rfl, row 0xF3#8 _ rfl⟩
theorem nopImp1A : Statement (.nopImp1A) :=
  ⟨rfl, row 0x1A#8 _ rfl⟩
theorem nopImp3A : Statement (.nopImp3A) :=
  ⟨rfl, row 0x3A#8 _ rfl⟩
theorem nopImp5A : Statement (.nopImp5A) :=
  ⟨rfl, row 0x5A#8 _ rfl⟩
theorem nopImp7A : Statement (.nopImp7A) :=
  ⟨rfl, row 0x7A#8 _ rfl⟩
theorem nopImpDA : Statement (.nopImpDA) :=
  ⟨rfl, row 0xDA#8 _ rfl⟩
theorem nopImpFA : Statement (.nopImpFA) :=
  ⟨rfl, row 0xFA#8 _ rfl⟩
theorem nopImm80 (b : Byte) : Statement (.nopImm80 b) :=
  ⟨rfl, row 0x80#8 _ rfl⟩
theorem nopImm82 (b : Byte) : Statement (.nopImm82 b) :=
  ⟨rfl, row 0x82#8 _ rfl⟩
theorem nopImm89 (b : Byte) : Statement (.nopImm89 b) :=
  ⟨rfl, row 0x89#8 _ rfl⟩
theorem nopImmC2 (b : Byte) : Statement (.nopImmC2 b) :=
  ⟨rfl, row 0xC2#8 _ rfl⟩
theorem nopImmE2 (b : Byte) : Statement (.nopImmE2 b) :=
  ⟨rfl, row 0xE2#8 _ rfl⟩
theorem nopZp04 (b : Byte) : Statement (.nopZp04 b) :=
  ⟨rfl, row 0x04#8 _ rfl⟩
theorem nopZp44 (b : Byte) : Statement (.nopZp44 b) :=
  ⟨rfl, row 0x44#8 _ rfl⟩
theorem nopZp64 (b : Byte) : Statement (.nopZp64 b) :=
  ⟨rfl, row 0x64#8 _ rfl⟩
theorem nopZpX14 (b : Byte) : Statement (.nopZpX14 b) :=
  ⟨rfl, row 0x14#8 _ rfl⟩
theorem nopZpX34 (b : Byte) : Statement (.nopZpX34 b) :=
  ⟨rfl, row 0x34#8 _ rfl⟩
theorem nopZpX54 (b : Byte) : Statement (.nopZpX54 b) :=
  ⟨rfl, row 0x54#8 _ rfl⟩
theorem nopZpX74 (b : Byte) : Statement (.nopZpX74 b) :=
  ⟨rfl, row 0x74#8 _ rfl⟩
theorem nopZpXD4 (b : Byte) : Statement (.nopZpXD4 b) :=
  ⟨rfl, row 0xD4#8 _ rfl⟩
theorem nopZpXF4 (b : Byte) : Statement (.nopZpXF4 b) :=
  ⟨rfl, row 0xF4#8 _ rfl⟩
theorem nopAbs0C (w : Addr) : Statement (.nopAbs0C w) :=
  ⟨rfl, row 0x0C#8 _ rfl⟩
theorem nopAbsX1C (w : Addr) : Statement (.nopAbsX1C w) :=
  ⟨rfl, row 0x1C#8 _ rfl⟩
theorem nopAbsX3C (w : Addr) : Statement (.nopAbsX3C w) :=
  ⟨rfl, row 0x3C#8 _ rfl⟩
theorem nopAbsX5C (w : Addr) : Statement (.nopAbsX5C w) :=
  ⟨rfl, row 0x5C#8 _ rfl⟩
theorem nopAbsX7C (w : Addr) : Statement (.nopAbsX7C w) :=
  ⟨rfl, row 0x7C#8 _ rfl⟩
theorem nopAbsXDC (w : Addr) : Statement (.nopAbsXDC w) :=
  ⟨rfl, row 0xDC#8 _ rfl⟩
theorem nopAbsXFC (w : Addr) : Statement (.nopAbsXFC w) :=
  ⟨rfl, row 0xFC#8 _ rfl⟩

end Sys2Proof.Laws.EncodingShape
end

