-- ==== Sys2Proof/Laws/Step.lean ====
section
/-! SUPPORT. What fetching leaves, and everything a step can do (spec/60_exceptions.md R230,
R232). -/

namespace Sys2Proof.Laws

open Sys2Proof.Machine

@[simp] theorem nextByte_fst (s : State) : (nextByte s).1 = readByte s s.pc := rfl
@[simp] theorem nextByte_snd (s : State) : (nextByte s).2 = s.setPc (s.pc + 1#16) := rfl

/-- The fetch of the operand bytes moves PC and nothing else. -/
theorem fetchOperands_snd (shape : Shape) (s : State) :
    (fetchOperands shape s).2 = s.setPc (fetchOperands shape s).2.pc := by
  cases shape <;> rfl

@[simp] theorem fetchOperands_f1 (i : Instr) (s : State) : fetchOperands (.f1 i) s = (i, s) := rfl

@[simp] theorem fetchOperands_f2 (make : Byte → Instr) (s : State) :
    fetchOperands (.f2 make) s = (make (readByte s s.pc), s.setPc (s.pc + 1#16)) := rfl

@[simp] theorem fetchOperands_f3 (make : Addr → Instr) (s : State) :
    fetchOperands (.f3 make) s =
      (make (joinBytes (readByte s (s.pc + 1#16)) (readByte s s.pc)),
        s.setPc (s.pc + 1#16 + 1#16)) := rfl

/-- A step of an opcode byte with no row is the fault. -/
theorem step_of_none {s : State}
    (h : lookup s.config.allowIllegalOps (readByte s s.pc) = none) :
    step s = .fault (.unimplementedOpcode (readByte s s.pc)) := by
  simp [step, h]

/-- A step of an opcode byte with a row runs the row's instruction. -/
theorem step_of_some {s : State} {shape : Shape}
    (h : lookup s.config.allowIllegalOps (readByte s s.pc) = some shape) :
    step s = exec (fetchOperands shape (s.setPc (s.pc + 1#16))).1
      (fetchOperands shape (s.setPc (s.pc + 1#16))).2 := by
  simp [step, h]

/-- Everything a step can do: the fault of an opcode byte with no row, leaving no state; or the
effect of one instruction, in the state that differs from the one before in PC alone. -/
theorem step_cases (s : State) :
    (lookup s.config.allowIllegalOps (readByte s s.pc) = none ∧
      step s = .fault (.unimplementedOpcode (readByte s s.pc))) ∨
    ∃ (i : Instr) (pc : Addr),
      (lookup s.config.allowIllegalOps (readByte s s.pc)).isSome = true ∧
      step s = exec i (s.setPc pc) ∧
      step s = .next (meaningOf i.mnemonic i.mode (s.setPc pc)) := by
  cases h : lookup s.config.allowIllegalOps (readByte s s.pc) with
  | none => exact .inl ⟨rfl, step_of_none h⟩
  | some shape =>
    have e := step_of_some h
    rw [fetchOperands_snd] at e
    exact .inr ⟨_, _, rfl, e, by rw [e, exec_eq]; rfl⟩

end Sys2Proof.Laws
end

