-- ==== Sys2Proof/Tests/Slice0.lean ====
section
/-! SUPPORT. The model's own tests: words written out from spec/30_encoding.md, single steps whose
expected results are rows of spec/95_test_vectors.md, and, for each statement with hypotheses, a
state and operands that meet them. Flags are written in that file's order N V B D I Z C. -/

namespace Sys2Proof.Tests

open Sys2Proof.Machine

/-! ## Helpers -/

/-- The flags of seven bits in the order N V B D I Z C. -/
def bits (k : Nat) : Flags :=
  { n := k.testBit 6, v := k.testBit 5, b := k.testBit 4, d := k.testBit 3, i := k.testBit 2
    z := k.testBit 1, c := k.testBit 0 }

/-- The reset state with code at 0x0600. -/
def program (code : List Byte) : State := placeBytes code 0x0600#16 State.reset

/-- The same with illegal opcodes enabled. -/
def illegal (code : List Byte) : State :=
  placeBytes code 0x0600#16 (State.powerOn { allowIllegalOps := true })

/-- The reset state with code at an address, and PC there. -/
def programAt (addr : Addr) (code : List Byte) : State :=
  { placeBytes code addr State.reset with pc := addr }

/-- The state with cells preset. -/
def poke (cells : List (Addr × Byte)) (s : State) : State :=
  cells.foldl (fun s cell => writeByte s cell.1 cell.2) s

/-- The state after one step, if it completes. -/
def after (s : State) : Option State :=
  match step s with
  | .next t => some t
  | .fault _ => none
  | .refused _ => none

/-- The fault a step answers, if it answers one. -/
def faultOf (s : State) : Option Fault :=
  match step s with
  | .next _ => none
  | .fault f => some f
  | .refused _ => none

/-! ## Well-formed and ill-formed instructions -/

/-- R64: a row of the illegal table is ill formed with illegal opcodes disabled, and the decoder
refuses its word. -/
theorem test_wf_refuses_illegal_row :
    Instr.wf false (.laxZp 0x10#8) = false ∧
      decode false (encode (.laxZp 0x10#8)) = .unimplementedOpcode 0xA7#8 := by decide

/-- R64: the same row is well formed with them enabled, and a legal row always is. -/
theorem test_wf_accepts :
    Instr.wf true (.laxZp 0x10#8) = true ∧ Instr.wf false (.ldaZp 0x10#8) = true ∧
      Instr.wf true (.ldaZp 0x10#8) = true := by decide

/-! ## Every row of the opcode table, its opcode bits as spec/30_encoding.md writes them -/

/-- Whether each list of bytes decodes to its instruction, nothing left over. -/
def decodesTo (allow : Bool) (words : List (List Byte × Instr)) : Bool :=
  words.all fun w => decode allow w.1 == .instr w.2 []

theorem test_decode_stack_flags_system_1 : decodesTo false
    [([0b01001000#8], .pha),
     ([0b01101000#8], .pla),
     ([0b00001000#8], .php),
     ([0b00101000#8], .plp),
     ([0b00011000#8], .clc),
     ([0b00111000#8], .sec),
     ([0b01011000#8], .cli),
     ([0b01111000#8], .sei),
     ([0b11011000#8], .cld),
     ([0b11111000#8], .sed),
     ([0b10111000#8], .clv),
     ([0b11101010#8], .nop),
     ([0b00000000#8], .brk),
     ([0b01000000#8], .rti)] = true := by decide

theorem test_decode_arith_logic_1 : decodesTo false
    [([0b01100001#8, 0x5A#8], .adcIndX 0x5A#8),
     ([0b01100101#8, 0x5A#8], .adcZp 0x5A#8),
     ([0b01101001#8, 0x5A#8], .adcImm 0x5A#8),
     ([0b01101101#8, 0x34#8, 0x12#8], .adcAbs 0x1234#16),
     ([0b01110001#8, 0x5A#8], .adcIndY 0x5A#8),
     ([0b01110101#8, 0x5A#8], .adcZpX 0x5A#8),
     ([0b01111001#8, 0x34#8, 0x12#8], .adcAbsY 0x1234#16),
     ([0b01111101#8, 0x34#8, 0x12#8], .adcAbsX 0x1234#16),
     ([0b11100001#8, 0x5A#8], .sbcIndX 0x5A#8),
     ([0b11100101#8, 0x5A#8], .sbcZp 0x5A#8),
     ([0b11101001#8, 0x5A#8], .sbcImm 0x5A#8),
     ([0b11101101#8, 0x34#8, 0x12#8], .sbcAbs 0x1234#16),
     ([0b11110001#8, 0x5A#8], .sbcIndY 0x5A#8),
     ([0b11110101#8, 0x5A#8], .sbcZpX 0x5A#8),
     ([0b11111001#8, 0x34#8, 0x12#8], .sbcAbsY 0x1234#16),
     ([0b11111101#8, 0x34#8, 0x12#8], .sbcAbsX 0x1234#16),
     ([0b00100001#8, 0x5A#8], .andIndX 0x5A#8),
     ([0b00100101#8, 0x5A#8], .andZp 0x5A#8),
     ([0b00101001#8, 0x5A#8], .andImm 0x5A#8),
     ([0b00101101#8, 0x34#8, 0x12#8], .andAbs 0x1234#16)] = true := by decide

theorem test_decode_arith_logic_2 : decodesTo false
    [([0b00110001#8, 0x5A#8], .andIndY 0x5A#8),
     ([0b00110101#8, 0x5A#8], .andZpX 0x5A#8),
     ([0b00111001#8, 0x34#8, 0x12#8], .andAbsY 0x1234#16),
     ([0b00111101#8, 0x34#8, 0x12#8], .andAbsX 0x1234#16),
     ([0b00000001#8, 0x5A#8], .oraIndX 0x5A#8),
     ([0b00000101#8, 0x5A#8], .oraZp 0x5A#8),
     ([0b00001001#8, 0x5A#8], .oraImm 0x5A#8),
     ([0b00001101#8, 0x34#8, 0x12#8], .oraAbs 0x1234#16),
     ([0b00010001#8, 0x5A#8], .oraIndY 0x5A#8),
     ([0b00010101#8, 0x5A#8], .oraZpX 0x5A#8),
     ([0b00011001#8, 0x34#8, 0x12#8], .oraAbsY 0x1234#16),
     ([0b00011101#8, 0x34#8, 0x12#8], .oraAbsX 0x1234#16),
     ([0b01000001#8, 0x5A#8], .eorIndX 0x5A#8),
     ([0b01000101#8, 0x5A#8], .eorZp 0x5A#8),
     ([0b01001001#8, 0x5A#8], .eorImm 0x5A#8),
     ([0b01001101#8, 0x34#8, 0x12#8], .eorAbs 0x1234#16),
     ([0b01010001#8, 0x5A#8], .eorIndY 0x5A#8),
     ([0b01010101#8, 0x5A#8], .eorZpX 0x5A#8),
     ([0b01011001#8, 0x34#8, 0x12#8], .eorAbsY 0x1234#16),
     ([0b01011101#8, 0x34#8, 0x12#8], .eorAbsX 0x1234#16)] = true := by decide

theorem test_decode_arith_logic_3 : decodesTo false
    [([0b11000001#8, 0x5A#8], .cmpIndX 0x5A#8),
     ([0b11000101#8, 0x5A#8], .cmpZp 0x5A#8),
     ([0b11001001#8, 0x5A#8], .cmpImm 0x5A#8),
     ([0b11001101#8, 0x34#8, 0x12#8], .cmpAbs 0x1234#16),
     ([0b11010001#8, 0x5A#8], .cmpIndY 0x5A#8),
     ([0b11010101#8, 0x5A#8], .cmpZpX 0x5A#8),
     ([0b11011001#8, 0x34#8, 0x12#8], .cmpAbsY 0x1234#16),
     ([0b11011101#8, 0x34#8, 0x12#8], .cmpAbsX 0x1234#16),
     ([0b11100000#8, 0x5A#8], .cpxImm 0x5A#8),
     ([0b11100100#8, 0x5A#8], .cpxZp 0x5A#8),
     ([0b11101100#8, 0x34#8, 0x12#8], .cpxAbs 0x1234#16),
     ([0b11000000#8, 0x5A#8], .cpyImm 0x5A#8),
     ([0b11000100#8, 0x5A#8], .cpyZp 0x5A#8),
     ([0b11001100#8, 0x34#8, 0x12#8], .cpyAbs 0x1234#16),
     ([0b00100100#8, 0x5A#8], .bitZp 0x5A#8),
     ([0b00101100#8, 0x34#8, 0x12#8], .bitAbs 0x1234#16),
     ([0b11100110#8, 0x5A#8], .incZp 0x5A#8),
     ([0b11101110#8, 0x34#8, 0x12#8], .incAbs 0x1234#16),
     ([0b11110110#8, 0x5A#8], .incZpX 0x5A#8),
     ([0b11111110#8, 0x34#8, 0x12#8], .incAbsX 0x1234#16)] = true := by decide

theorem test_decode_arith_logic_4 : decodesTo false
    [([0b11000110#8, 0x5A#8], .decZp 0x5A#8),
     ([0b11001110#8, 0x34#8, 0x12#8], .decAbs 0x1234#16),
     ([0b11010110#8, 0x5A#8], .decZpX 0x5A#8),
     ([0b11011110#8, 0x34#8, 0x12#8], .decAbsX 0x1234#16),
     ([0b11101000#8], .inx),
     ([0b11001000#8], .iny),
     ([0b11001010#8], .dex),
     ([0b10001000#8], .dey)] = true := by decide

theorem test_decode_illegal_1 : decodesTo true
    [([0b10100011#8, 0x5A#8], .laxIndX 0x5A#8),
     ([0b10100111#8, 0x5A#8], .laxZp 0x5A#8),
     ([0b10101111#8, 0x34#8, 0x12#8], .laxAbs 0x1234#16),
     ([0b10110011#8, 0x5A#8], .laxIndY 0x5A#8),
     ([0b10110111#8, 0x5A#8], .laxZpY 0x5A#8),
     ([0b10111111#8, 0x34#8, 0x12#8], .laxAbsY 0x1234#16),
     ([0b10000011#8, 0x5A#8], .saxIndX 0x5A#8),
     ([0b10000111#8, 0x5A#8], .saxZp 0x5A#8),
     ([0b10001111#8, 0x34#8, 0x12#8], .saxAbs 0x1234#16),
     ([0b10010111#8, 0x5A#8], .saxZpY 0x5A#8),
     ([0b00000011#8, 0x5A#8], .sloIndX 0x5A#8),
     ([0b00000111#8, 0x5A#8], .sloZp 0x5A#8),
     ([0b00001111#8, 0x34#8, 0x12#8], .sloAbs 0x1234#16),
     ([0b00010011#8, 0x5A#8], .sloIndY 0x5A#8),
     ([0b00010111#8, 0x5A#8], .sloZpX 0x5A#8),
     ([0b00011011#8, 0x34#8, 0x12#8], .sloAbsY 0x1234#16),
     ([0b00011111#8, 0x34#8, 0x12#8], .sloAbsX 0x1234#16),
     ([0b00100011#8, 0x5A#8], .rlaIndX 0x5A#8),
     ([0b00100111#8, 0x5A#8], .rlaZp 0x5A#8),
     ([0b00101111#8, 0x34#8, 0x12#8], .rlaAbs 0x1234#16)] = true := by decide

theorem test_decode_illegal_2 : decodesTo true
    [([0b00110011#8, 0x5A#8], .rlaIndY 0x5A#8),
     ([0b00110111#8, 0x5A#8], .rlaZpX 0x5A#8),
     ([0b00111011#8, 0x34#8, 0x12#8], .rlaAbsY 0x1234#16),
     ([0b00111111#8, 0x34#8, 0x12#8], .rlaAbsX 0x1234#16),
     ([0b01000011#8, 0x5A#8], .sreIndX 0x5A#8),
     ([0b01000111#8, 0x5A#8], .sreZp 0x5A#8),
     ([0b01001111#8, 0x34#8, 0x12#8], .sreAbs 0x1234#16),
     ([0b01010011#8, 0x5A#8], .sreIndY 0x5A#8),
     ([0b01010111#8, 0x5A#8], .sreZpX 0x5A#8),
     ([0b01011011#8, 0x34#8, 0x12#8], .sreAbsY 0x1234#16),
     ([0b01011111#8, 0x34#8, 0x12#8], .sreAbsX 0x1234#16),
     ([0b01100011#8, 0x5A#8], .rraIndX 0x5A#8),
     ([0b01100111#8, 0x5A#8], .rraZp 0x5A#8),
     ([0b01101111#8, 0x34#8, 0x12#8], .rraAbs 0x1234#16),
     ([0b01110011#8, 0x5A#8], .rraIndY 0x5A#8),
     ([0b01110111#8, 0x5A#8], .rraZpX 0x5A#8),
     ([0b01111011#8, 0x34#8, 0x12#8], .rraAbsY 0x1234#16),
     ([0b01111111#8, 0x34#8, 0x12#8], .rraAbsX 0x1234#16),
     ([0b11000011#8, 0x5A#8], .dcpIndX 0x5A#8),
     ([0b11000111#8, 0x5A#8], .dcpZp 0x5A#8)] = true := by decide

theorem test_decode_illegal_3 : decodesTo true
    [([0b11001111#8, 0x34#8, 0x12#8], .dcpAbs 0x1234#16),
     ([0b11010011#8, 0x5A#8], .dcpIndY 0x5A#8),
     ([0b11010111#8, 0x5A#8], .dcpZpX 0x5A#8),
     ([0b11011011#8, 0x34#8, 0x12#8], .dcpAbsY 0x1234#16),
     ([0b11011111#8, 0x34#8, 0x12#8], .dcpAbsX 0x1234#16),
     ([0b11100011#8, 0x5A#8], .iscIndX 0x5A#8),
     ([0b11100111#8, 0x5A#8], .iscZp 0x5A#8),
     ([0b11101111#8, 0x34#8, 0x12#8], .iscAbs 0x1234#16),
     ([0b11110011#8, 0x5A#8], .iscIndY 0x5A#8),
     ([0b11110111#8, 0x5A#8], .iscZpX 0x5A#8),
     ([0b11111011#8, 0x34#8, 0x12#8], .iscAbsY 0x1234#16),
     ([0b11111111#8, 0x34#8, 0x12#8], .iscAbsX 0x1234#16),
     ([0b00011010#8], .nopImp1A),
     ([0b00111010#8], .nopImp3A),
     ([0b01011010#8], .nopImp5A),
     ([0b01111010#8], .nopImp7A),
     ([0b11011010#8], .nopImpDA),
     ([0b11111010#8], .nopImpFA),
     ([0b10000000#8, 0x5A#8], .nopImm80 0x5A#8),
     ([0b10000010#8, 0x5A#8], .nopImm82 0x5A#8)] = true := by decide

theorem test_decode_illegal_4 : decodesTo true
    [([0b10001001#8, 0x5A#8], .nopImm89 0x5A#8),
     ([0b11000010#8, 0x5A#8], .nopImmC2 0x5A#8),
     ([0b11100010#8, 0x5A#8], .nopImmE2 0x5A#8),
     ([0b00000100#8, 0x5A#8], .nopZp04 0x5A#8),
     ([0b00010100#8, 0x5A#8], .nopZpX14 0x5A#8),
     ([0b00110100#8, 0x5A#8], .nopZpX34 0x5A#8),
     ([0b01000100#8, 0x5A#8], .nopZp44 0x5A#8),
     ([0b01010100#8, 0x5A#8], .nopZpX54 0x5A#8),
     ([0b01100100#8, 0x5A#8], .nopZp64 0x5A#8),
     ([0b01110100#8, 0x5A#8], .nopZpX74 0x5A#8),
     ([0b11010100#8, 0x5A#8], .nopZpXD4 0x5A#8),
     ([0b11110100#8, 0x5A#8], .nopZpXF4 0x5A#8),
     ([0b00001100#8, 0x34#8, 0x12#8], .nopAbs0C 0x1234#16),
     ([0b00011100#8, 0x34#8, 0x12#8], .nopAbsX1C 0x1234#16),
     ([0b00111100#8, 0x34#8, 0x12#8], .nopAbsX3C 0x1234#16),
     ([0b01011100#8, 0x34#8, 0x12#8], .nopAbsX5C 0x1234#16),
     ([0b01111100#8, 0x34#8, 0x12#8], .nopAbsX7C 0x1234#16),
     ([0b11011100#8, 0x34#8, 0x12#8], .nopAbsXDC 0x1234#16),
     ([0b11111100#8, 0x34#8, 0x12#8], .nopAbsXFC 0x1234#16)] = true := by decide

theorem test_decode_shift_rotate_1 : decodesTo false
    [([0b00000110#8, 0x5A#8], .aslZp 0x5A#8),
     ([0b00001010#8], .aslAcc),
     ([0b00001110#8, 0x34#8, 0x12#8], .aslAbs 0x1234#16),
     ([0b00010110#8, 0x5A#8], .aslZpX 0x5A#8),
     ([0b00011110#8, 0x34#8, 0x12#8], .aslAbsX 0x1234#16),
     ([0b01000110#8, 0x5A#8], .lsrZp 0x5A#8),
     ([0b01001010#8], .lsrAcc),
     ([0b01001110#8, 0x34#8, 0x12#8], .lsrAbs 0x1234#16),
     ([0b01010110#8, 0x5A#8], .lsrZpX 0x5A#8),
     ([0b01011110#8, 0x34#8, 0x12#8], .lsrAbsX 0x1234#16),
     ([0b00100110#8, 0x5A#8], .rolZp 0x5A#8),
     ([0b00101010#8], .rolAcc),
     ([0b00101110#8, 0x34#8, 0x12#8], .rolAbs 0x1234#16),
     ([0b00110110#8, 0x5A#8], .rolZpX 0x5A#8),
     ([0b00111110#8, 0x34#8, 0x12#8], .rolAbsX 0x1234#16),
     ([0b01100110#8, 0x5A#8], .rorZp 0x5A#8),
     ([0b01101010#8], .rorAcc),
     ([0b01101110#8, 0x34#8, 0x12#8], .rorAbs 0x1234#16),
     ([0b01110110#8, 0x5A#8], .rorZpX 0x5A#8),
     ([0b01111110#8, 0x34#8, 0x12#8], .rorAbsX 0x1234#16)] = true := by decide

theorem test_decode_branch_jump_1 : decodesTo false
    [([0b10010000#8, 0x5A#8], .bcc 0x5A#8),
     ([0b10110000#8, 0x5A#8], .bcs 0x5A#8),
     ([0b11110000#8, 0x5A#8], .beq 0x5A#8),
     ([0b11010000#8, 0x5A#8], .bne 0x5A#8),
     ([0b00110000#8, 0x5A#8], .bmi 0x5A#8),
     ([0b00010000#8, 0x5A#8], .bpl 0x5A#8),
     ([0b01010000#8, 0x5A#8], .bvc 0x5A#8),
     ([0b01110000#8, 0x5A#8], .bvs 0x5A#8),
     ([0b01001100#8, 0x34#8, 0x12#8], .jmpAbs 0x1234#16),
     ([0b01101100#8, 0x34#8, 0x12#8], .jmpInd 0x1234#16),
     ([0b00100000#8, 0x34#8, 0x12#8], .jsr 0x1234#16),
     ([0b01100000#8], .rts)] = true := by decide

theorem test_decode_load_store_transfer_1 : decodesTo false
    [([0b10100001#8, 0x5A#8], .ldaIndX 0x5A#8),
     ([0b10100101#8, 0x5A#8], .ldaZp 0x5A#8),
     ([0b10101001#8, 0x5A#8], .ldaImm 0x5A#8),
     ([0b10101101#8, 0x34#8, 0x12#8], .ldaAbs 0x1234#16),
     ([0b10110001#8, 0x5A#8], .ldaIndY 0x5A#8),
     ([0b10110101#8, 0x5A#8], .ldaZpX 0x5A#8),
     ([0b10111001#8, 0x34#8, 0x12#8], .ldaAbsY 0x1234#16),
     ([0b10111101#8, 0x34#8, 0x12#8], .ldaAbsX 0x1234#16),
     ([0b10100010#8, 0x5A#8], .ldxImm 0x5A#8),
     ([0b10100110#8, 0x5A#8], .ldxZp 0x5A#8),
     ([0b10101110#8, 0x34#8, 0x12#8], .ldxAbs 0x1234#16),
     ([0b10110110#8, 0x5A#8], .ldxZpY 0x5A#8),
     ([0b10111110#8, 0x34#8, 0x12#8], .ldxAbsY 0x1234#16),
     ([0b10100000#8, 0x5A#8], .ldyImm 0x5A#8),
     ([0b10100100#8, 0x5A#8], .ldyZp 0x5A#8),
     ([0b10101100#8, 0x34#8, 0x12#8], .ldyAbs 0x1234#16),
     ([0b10110100#8, 0x5A#8], .ldyZpX 0x5A#8),
     ([0b10111100#8, 0x34#8, 0x12#8], .ldyAbsX 0x1234#16),
     ([0b10000001#8, 0x5A#8], .staIndX 0x5A#8),
     ([0b10000101#8, 0x5A#8], .staZp 0x5A#8)] = true := by decide

theorem test_decode_load_store_transfer_2 : decodesTo false
    [([0b10001101#8, 0x34#8, 0x12#8], .staAbs 0x1234#16),
     ([0b10010001#8, 0x5A#8], .staIndY 0x5A#8),
     ([0b10010101#8, 0x5A#8], .staZpX 0x5A#8),
     ([0b10011001#8, 0x34#8, 0x12#8], .staAbsY 0x1234#16),
     ([0b10011101#8, 0x34#8, 0x12#8], .staAbsX 0x1234#16),
     ([0b10000110#8, 0x5A#8], .stxZp 0x5A#8),
     ([0b10001110#8, 0x34#8, 0x12#8], .stxAbs 0x1234#16),
     ([0b10010110#8, 0x5A#8], .stxZpY 0x5A#8),
     ([0b10000100#8, 0x5A#8], .styZp 0x5A#8),
     ([0b10001100#8, 0x34#8, 0x12#8], .styAbs 0x1234#16),
     ([0b10010100#8, 0x5A#8], .styZpX 0x5A#8),
     ([0b10101010#8], .tax),
     ([0b10101000#8], .tay),
     ([0b10001010#8], .txa),
     ([0b10011000#8], .tya),
     ([0b10111010#8], .tsx),
     ([0b10011010#8], .txs)] = true := by decide

/-- R67: a byte in neither table decodes to nothing, whatever the configuration. -/
theorem test_decode_unmapped :
    decode true [0xEB#8, 0x01#8] = .unimplementedOpcode 0xEB#8 ∧
      decode false [0x02#8] = .unimplementedOpcode 0x02#8 := by decide

/-- The host's numbering: the second byte of LDA absolute is bits 15..8, the third 23..16. -/
theorem test_decodeTableWord :
    decodeTableWord 24 0x1234AD = some (.ldaAbs 0x1234#16) ∧
      decodeTableWord 8 0xAD = some (.ldaAbs 0x0000#16) ∧ decodeTableWord 8 0x02 = none := by
  decide

/-! ## Addressing modes (part 2.1) -/

/-- M1. -/
theorem test_lda_zpX_wraps :
    (after ({ poke [(0x0001#16, 0x5A#8), (0x0101#16, 0x99#8)] (program [0xB5#8, 0xFF#8]) with
        x := 0x02#8 })).map
        (fun t => (t.a, t.pc)) =
      some (0x5A#8, 0x0602#16) := by decide

/-- M2. -/
theorem test_ldx_zpY_wraps :
    (after ({ poke [(0x0010#16, 0x33#8)] (program [0xB6#8, 0x80#8]) with
        y := 0x90#8 })).map
        (fun t => (t.x, t.pc)) =
      some (0x33#8, 0x0602#16) := by decide

/-- M3. -/
theorem test_sty_zpX_wraps :
    (after ({ program [0x94#8, 0xFF#8] with y := 0x09#8, x := 0x01#8 })).map
        (fun t => (readByte t 0x0000#16, t.pc)) =
      some (0x09#8, 0x0602#16) := by decide

/-- M5. -/
theorem test_lda_absX_wraps :
    (after ({ poke [(0x0001#16, 0x44#8)] (program [0xBD#8, 0xFF#8, 0xFF#8]) with
        x := 0x02#8 })).map
        (fun t => (t.a, t.pc)) =
      some (0x44#8, 0x0603#16) := by decide

/-- M6. -/
theorem test_lda_absY :
    (after ({ poke [(0x1310#16, 0x81#8)] (program [0xB9#8, 0xF0#8, 0x12#8]) with
        y := 0x20#8 })).map
        (fun t => (t.a, t.flags, t.pc)) =
      some (0x81#8, bits 0b1000000, 0x0603#16) := by decide

/-- M9. -/
theorem test_lda_indX_pointer_at_FF :
    (after ({ poke [(0x00FF#16, 0x00#8), (0x0100#16, 0x04#8), (0x0000#16, 0x08#8), (0x0400#16,
        0x11#8), (0x0800#16, 0x22#8)] (program [0xA1#8, 0xFF#8]) with
        x := 0x00#8 })).map
        (fun t => (t.a, t.pc)) =
      some (0x11#8, 0x0602#16) := by decide

/-- M8. -/
theorem test_lda_indX_wraps :
    (after ({ poke [(0x0001#16, 0x34#8), (0x0002#16, 0x12#8), (0x1234#16, 0xAB#8)]
        (program [0xA1#8, 0xFE#8]) with
        x := 0x03#8 })).map
        (fun t => (t.a, t.flags)) =
      some (0xAB#8, bits 0b1000000) := by decide

/-- M11. -/
theorem test_lda_indY_pointer_at_FF :
    (after ({ poke [(0x00FF#16, 0xFF#8), (0x0100#16, 0x02#8), (0x0000#16, 0x09#8), (0x0300#16,
        0x11#8), (0x0A00#16, 0x22#8)] (program [0xB1#8, 0xFF#8]) with
        y := 0x01#8 })).map
        (fun t => (t.a, t.pc)) =
      some (0x11#8, 0x0602#16) := by decide

/-- M12. -/
theorem test_lda_indY_wraps :
    (after ({ poke [(0x0020#16, 0xFF#8), (0x0021#16, 0xFF#8), (0x0001#16, 0x3C#8)]
        (program [0xB1#8, 0x20#8]) with
        y := 0x02#8 })).map
        (fun t => t.a) =
      some 0x3C#8 := by decide

/-- M13. -/
theorem test_sta_indY :
    (after ({ poke [(0x0020#16, 0x00#8), (0x0021#16, 0x03#8)] (program [0x91#8, 0x20#8]) with
        a := 0xAA#8, y := 0x03#8 })).map
        (fun t => (readByte t 0x0303#16, t.pc)) =
      some (0xAA#8, 0x0602#16) := by decide

/-- M14. -/
theorem test_sta_indX :
    (after ({ poke [(0x0022#16, 0x10#8), (0x0023#16, 0x02#8)] (program [0x81#8, 0x20#8]) with
        a := 0xBB#8, x := 0x02#8 })).map
        (fun t => readByte t 0x0210#16) =
      some 0xBB#8 := by decide

/-- M15. -/
theorem test_jmp_indirect :
    (after (poke [(0x0200#16, 0x78#8), (0x0201#16, 0x56#8)] (program [0x6C#8, 0x00#8, 0x02#8]))).map
        (fun t => t.pc) =
      some 0x5678#16 := by decide

/-- M16. -/
theorem test_jmp_indirect_no_page_bug :
    (after (poke [(0x02FF#16, 0x34#8), (0x0300#16, 0x12#8), (0x0200#16, 0x56#8)] (program [0x6C#8,
        0xFF#8, 0x02#8]))).map
        (fun t => t.pc) =
      some 0x1234#16 := by decide

/-- M17. -/
theorem test_pc_wraps_after_opcode :
    (after (programAt 0xFFFF#16 [0xEA#8])).map
        (fun t => t.pc) =
      some 0x0000#16 := by decide

/-- M19. -/
theorem test_operand_word_across_wrap :
    (after (poke [(0x0210#16, 0x77#8)] (programAt 0xFFFE#16 [0xAD#8, 0x10#8, 0x02#8]))).map
        (fun t => (t.a, t.pc)) =
      some (0x77#8, 0x0001#16) := by decide

/-! ## Loads, stores, transfers (part 2.2, E4) -/

/-- E4. -/
theorem test_lda_imm_zero :
    (after ({ program [0xA9#8, 0x00#8] with flags := bits 0b1100001 })).map
        (fun t => (t.a, t.flags, t.pc)) =
      some (0x00#8, bits 0b0100011, 0x0602#16) := by decide

/-- L1. -/
theorem test_lda_imm_negative :
    (after (program [0xA9#8, 0x80#8])).map
        (fun t => (t.a, t.flags)) =
      some (0x80#8, bits 0b1000000) := by decide

/-- L2. -/
theorem test_ldx_imm :
    (after ({ program [0xA2#8, 0x00#8] with flags := bits 0b1000000 })).map
        (fun t => (t.x, t.flags)) =
      some (0x00#8, bits 0b0000010) := by decide

/-- L3. -/
theorem test_ldy_imm :
    (after (program [0xA0#8, 0xFF#8])).map
        (fun t => (t.y, t.flags)) =
      some (0xFF#8, bits 0b1000000) := by decide

/-- L4. -/
theorem test_sta_abs :
    (after ({ program [0x8D#8, 0x00#8, 0x02#8] with
        a := 0x42#8, flags := bits 0b0000010 })).map
        (fun t => (readByte t 0x0200#16, t.flags, t.pc)) =
      some (0x42#8, bits 0b0000010, 0x0603#16) := by decide

/-- L5. -/
theorem test_stx_zp :
    (after ({ program [0x86#8, 0x10#8] with x := 0x07#8 })).map
        (fun t => (readByte t 0x0010#16, t.pc)) =
      some (0x07#8, 0x0602#16) := by decide

/-- L6. -/
theorem test_tax :
    (after ({ program [0xAA#8] with a := 0x80#8 })).map
        (fun t => (t.x, t.flags, t.pc)) =
      some (0x80#8, bits 0b1000000, 0x0601#16) := by decide

/-- L7. -/
theorem test_tay :
    (after ({ program [0xA8#8] with a := 0x00#8 })).map
        (fun t => (t.y, t.flags)) =
      some (0x00#8, bits 0b0000010) := by decide

/-- L8. -/
theorem test_txa :
    (after ({ program [0x8A#8] with x := 0x7F#8, flags := bits 0b1000000 })).map
        (fun t => (t.a, t.flags)) =
      some (0x7F#8, bits 0b0000000) := by decide

/-- L9. -/
theorem test_tya :
    (after ({ program [0x98#8] with y := 0xFF#8 })).map
        (fun t => (t.a, t.flags)) =
      some (0xFF#8, bits 0b1000000) := by decide

/-- L10. -/
theorem test_tsx :
    (after ({ program [0xBA#8] with sp := 0xFC#8 })).map
        (fun t => (t.x, t.flags)) =
      some (0xFC#8, bits 0b1000000) := by decide

/-- L11. -/
theorem test_txs :
    (after ({ program [0x9A#8] with x := 0x80#8 })).map
        (fun t => (t.sp, t.flags)) =
      some (0x80#8, bits 0b0000000) := by decide

/-- L12. -/
theorem test_txs_zero :
    (after ({ program [0x9A#8] with x := 0x00#8 })).map
        (fun t => (t.sp, t.flags)) =
      some (0x00#8, bits 0b0000000) := by decide

/-! ## Add and subtract (parts 2.3, 2.4) -/

/-- A1. -/
theorem test_adc_overflow :
    (after ({ program [0x69#8, 0x01#8] with a := 0x7F#8 })).map
        (fun t => (t.a, t.flags, t.pc)) =
      some (0x80#8, bits 0b1100000, 0x0602#16) := by decide

/-- DA2. -/
theorem test_adc_decimal :
    (after ({ program [0x69#8, 0x46#8] with a := 0x58#8, flags := bits 0b0001000 })).map
        (fun t => (t.a, t.flags)) =
      some (0x04#8, bits 0b0101001) := by decide

/-- B4. -/
theorem test_sbc_overflow :
    (after ({ program [0xE9#8, 0x01#8] with a := 0x80#8, flags := bits 0b0000001 })).map
        (fun t => (t.a, t.flags, t.pc)) =
      some (0x7F#8, bits 0b0100001, 0x0602#16) := by decide

/-- DS5. -/
theorem test_sbc_decimal :
    (after ({ program [0xE9#8, 0x34#8] with a := 0x21#8, flags := bits 0b0001001 })).map
        (fun t => (t.a, t.flags)) =
      some (0x87#8, bits 0b1001000) := by decide

/-- A1 to A10, each row: A, v, C in; A, N V Z C out. -/
theorem test_adc_binary_rows :
    [((0x7F#8, 0x01#8, false), (0x80#8, 0b1100)),
     ((0x80#8, 0xFF#8, false), (0x7F#8, 0b0101)),
     ((0xFF#8, 0x01#8, false), (0x00#8, 0b0011)),
     ((0xFF#8, 0xFF#8, true), (0xFF#8, 0b1001)),
     ((0x50#8, 0x50#8, false), (0xA0#8, 0b1100)),
     ((0xD0#8, 0x90#8, false), (0x60#8, 0b0101)),
     ((0x00#8, 0x00#8, false), (0x00#8, 0b0010)),
     ((0x7F#8, 0x7F#8, true), (0xFF#8, 0b1100)),
     ((0x80#8, 0x80#8, false), (0x00#8, 0b0111)),
     ((0x01#8, 0xFF#8, true), (0x01#8, 0b0001))].all (fun row =>
        let f : Flags := { bits 0 with d := false, c := row.1.2.2 }
        adc row.1.1 row.1.2.1 f == (row.2.1,
          { f with
            n := row.2.2.testBit 3, v := row.2.2.testBit 2, z := row.2.2.testBit 1
            c := row.2.2.testBit 0 })) = true := by decide

/-- B1 to B9, each row: A, v, C in; A, N V Z C out. -/
theorem test_sbc_binary_rows :
    [((0x50#8, 0xF0#8, true), (0x60#8, 0b0000)),
     ((0x50#8, 0xB0#8, true), (0xA0#8, 0b1100)),
     ((0x00#8, 0x01#8, true), (0xFF#8, 0b1000)),
     ((0x80#8, 0x01#8, true), (0x7F#8, 0b0101)),
     ((0x40#8, 0x40#8, true), (0x00#8, 0b0011)),
     ((0x40#8, 0x40#8, false), (0xFF#8, 0b1000)),
     ((0x00#8, 0x00#8, false), (0xFF#8, 0b1000)),
     ((0xFF#8, 0xFF#8, true), (0x00#8, 0b0011)),
     ((0x7F#8, 0xFF#8, true), (0x80#8, 0b1100))].all (fun row =>
        let f : Flags := { bits 0 with d := false, c := row.1.2.2 }
        sbc row.1.1 row.1.2.1 f == (row.2.1,
          { f with
            n := row.2.2.testBit 3, v := row.2.2.testBit 2, z := row.2.2.testBit 1
            c := row.2.2.testBit 0 })) = true := by decide

/-- DA1 to DA16, each row: A, v, C in; A, N V Z C out. -/
theorem test_adc_decimal_rows :
    [((0x99#8, 0x01#8, false), (0x00#8, 0b0011)),
     ((0x58#8, 0x46#8, false), (0x04#8, 0b0101)),
     ((0x58#8, 0x46#8, true), (0x05#8, 0b0101)),
     ((0x12#8, 0x34#8, false), (0x46#8, 0b0000)),
     ((0x15#8, 0x26#8, false), (0x41#8, 0b0000)),
     ((0x81#8, 0x92#8, false), (0x73#8, 0b0101)),
     ((0x09#8, 0x01#8, false), (0x10#8, 0b0000)),
     ((0x99#8, 0x99#8, true), (0x99#8, 0b1101)),
     ((0x00#8, 0x00#8, false), (0x00#8, 0b0010)),
     ((0x79#8, 0x00#8, true), (0x80#8, 0b1100)),
     ((0x50#8, 0x50#8, false), (0x00#8, 0b0111)),
     ((0x49#8, 0x50#8, true), (0x00#8, 0b0111)),
     ((0x0A#8, 0x00#8, false), (0x10#8, 0b0000)),
     ((0x0F#8, 0x0F#8, false), (0x14#8, 0b0000)),
     ((0xA0#8, 0x00#8, false), (0x00#8, 0b0011)),
     ((0xFF#8, 0xFF#8, true), (0x55#8, 0b0001))].all (fun row =>
        let f : Flags := { bits 0 with d := true, c := row.1.2.2 }
        adc row.1.1 row.1.2.1 f == (row.2.1,
          { f with
            n := row.2.2.testBit 3, v := row.2.2.testBit 2, z := row.2.2.testBit 1
            c := row.2.2.testBit 0 })) = true := by decide

/-- DS1 to DS14, each row: A, v, C in; A, N V Z C out. -/
theorem test_sbc_decimal_rows :
    [((0x46#8, 0x12#8, true), (0x34#8, 0b0001)),
     ((0x40#8, 0x13#8, true), (0x27#8, 0b0001)),
     ((0x32#8, 0x02#8, false), (0x29#8, 0b0001)),
     ((0x12#8, 0x21#8, true), (0x91#8, 0b1000)),
     ((0x21#8, 0x34#8, true), (0x87#8, 0b1000)),
     ((0x00#8, 0x01#8, true), (0x99#8, 0b1000)),
     ((0x00#8, 0x00#8, true), (0x00#8, 0b0011)),
     ((0x00#8, 0x00#8, false), (0x99#8, 0b1000)),
     ((0x99#8, 0x99#8, true), (0x00#8, 0b0011)),
     ((0x10#8, 0x01#8, true), (0x09#8, 0b0001)),
     ((0x50#8, 0x50#8, true), (0x00#8, 0b0011)),
     ((0x0A#8, 0x00#8, true), (0x0A#8, 0b0001)),
     ((0x00#8, 0x0F#8, true), (0x8B#8, 0b1000)),
     ((0xFF#8, 0xFF#8, false), (0x99#8, 0b1000))].all (fun row =>
        let f : Flags := { bits 0 with d := true, c := row.1.2.2 }
        sbc row.1.1 row.1.2.1 f == (row.2.1,
          { f with
            n := row.2.2.testBit 3, v := row.2.2.testBit 2, z := row.2.2.testBit 1
            c := row.2.2.testBit 0 })) = true := by decide

/-! ## Logic, compare, BIT, increments (part 2.5) -/

/-- Q1. -/
theorem test_and_imm :
    (after ({ program [0x29#8, 0x0F#8] with a := 0xF0#8 })).map
        (fun t => (t.a, t.flags)) =
      some (0x00#8, bits 0b0000010) := by decide

/-- Q3. -/
theorem test_and_indY :
    (after ({ poke [(0x0020#16, 0xFF#8), (0x0021#16, 0x02#8), (0x0300#16, 0x0F#8)]
        (program [0x31#8, 0x20#8]) with
        a := 0x3C#8, y := 0x01#8 })).map
        (fun t => (t.a, t.pc)) =
      some (0x0C#8, 0x0602#16) := by decide

/-- Q4. -/
theorem test_ora_imm :
    (after ({ program [0x09#8, 0x80#8] with a := 0x01#8 })).map
        (fun t => (t.a, t.flags)) =
      some (0x81#8, bits 0b1000000) := by decide

/-- Q6. -/
theorem test_eor_imm :
    (after ({ program [0x49#8, 0xFF#8] with a := 0xFF#8 })).map
        (fun t => (t.a, t.flags)) =
      some (0x00#8, bits 0b0000010) := by decide

/-- Q7. -/
theorem test_eor_zp :
    (after ({ poke [(0x0010#16, 0xAA#8)] (program [0x45#8, 0x10#8]) with
        a := 0x55#8 })).map
        (fun t => (t.a, t.flags)) =
      some (0xFF#8, bits 0b1000000) := by decide

/-- Q9. -/
theorem test_cmp_below :
    (after ({ program [0xC9#8, 0x41#8] with a := 0x40#8 })).map
        (fun t => t.flags) =
      some (bits 0b1000000) := by decide

/-- Q12. -/
theorem test_cmp_overflow_kept :
    (after ({ program [0xC9#8, 0x7F#8] with a := 0x80#8, flags := bits 0b0100000 })).map
        (fun t => t.flags) =
      some (bits 0b0100001) := by decide

/-- Q15. -/
theorem test_cpx_imm :
    (after ({ program [0xE0#8, 0x01#8] with x := 0x00#8 })).map
        (fun t => t.flags) =
      some (bits 0b1000000) := by decide

/-- Q16. -/
theorem test_cpx_zp :
    (after ({ poke [(0x0010#16, 0x33#8)] (program [0xE4#8, 0x10#8]) with
        x := 0x33#8 })).map
        (fun t => t.flags) =
      some (bits 0b0000011) := by decide

/-- Q17. -/
theorem test_cpy_imm :
    (after ({ program [0xC0#8, 0x01#8] with y := 0x80#8 })).map
        (fun t => t.flags) =
      some (bits 0b0000001) := by decide

/-- Q18. -/
theorem test_cpy_abs :
    (after ({ poke [(0x0200#16, 0x02#8)] (program [0xCC#8, 0x00#8, 0x02#8]) with
        y := 0x01#8 })).map
        (fun t => (t.flags, t.pc)) =
      some (bits 0b1000000, 0x0603#16) := by decide

/-- Q19. -/
theorem test_bit_zp :
    (after ({ poke [(0x0010#16, 0xC0#8)] (program [0x24#8, 0x10#8]) with
        a := 0x01#8 })).map
        (fun t => (t.a, t.flags)) =
      some (0x01#8, bits 0b1100010) := by decide

/-- Q20. -/
theorem test_bit_abs :
    (after ({ poke [(0x0200#16, 0x01#8)] (program [0x2C#8, 0x00#8, 0x02#8]) with
        a := 0xFF#8, flags := bits 0b1100000 })).map
        (fun t => (t.flags, t.pc)) =
      some (bits 0b0000000, 0x0603#16) := by decide

/-- Q24. -/
theorem test_inc_zp :
    (after (poke [(0x0010#16, 0x7F#8)] (program [0xE6#8, 0x10#8]))).map
        (fun t => (readByte t 0x0010#16, t.flags)) =
      some (0x80#8, bits 0b1000000) := by decide

/-- Q25. -/
theorem test_inc_abs :
    (after (poke [(0x0200#16, 0xFF#8)] (program [0xEE#8, 0x00#8, 0x02#8]))).map
        (fun t => (readByte t 0x0200#16, t.flags)) =
      some (0x00#8, bits 0b0000010) := by decide

/-- Q26. -/
theorem test_inc_absX :
    (after ({ poke [(0x0300#16, 0x7F#8)] (program [0xFE#8, 0xFF#8, 0x02#8]) with
        x := 0x01#8 })).map
        (fun t => (readByte t 0x0300#16, t.flags)) =
      some (0x80#8, bits 0b1000000) := by decide

/-- Q27. -/
theorem test_dec_abs :
    (after (poke [(0x0200#16, 0x00#8)] (program [0xCE#8, 0x00#8, 0x02#8]))).map
        (fun t => (readByte t 0x0200#16, t.flags)) =
      some (0xFF#8, bits 0b1000000) := by decide

/-- Q28. -/
theorem test_dec_zpX :
    (after ({ poke [(0x0010#16, 0x01#8)] (program [0xD6#8, 0xF0#8]) with
        x := 0x20#8 })).map
        (fun t => (readByte t 0x0010#16, t.flags)) =
      some (0x00#8, bits 0b0000010) := by decide

/-- Q29. -/
theorem test_inx :
    (after ({ program [0xE8#8] with x := 0xFF#8 })).map
        (fun t => (t.x, t.flags)) =
      some (0x00#8, bits 0b0000010) := by decide

/-- Q30. -/
theorem test_iny :
    (after ({ program [0xC8#8] with y := 0x7F#8 })).map
        (fun t => (t.y, t.flags)) =
      some (0x80#8, bits 0b1000000) := by decide

/-- Q31. -/
theorem test_dex :
    (after ({ program [0xCA#8] with x := 0x01#8 })).map
        (fun t => (t.x, t.flags)) =
      some (0x00#8, bits 0b0000010) := by decide

/-- Q32. -/
theorem test_dey :
    (after ({ program [0x88#8] with y := 0x00#8 })).map
        (fun t => (t.y, t.flags)) =
      some (0xFF#8, bits 0b1000000) := by decide

/-! ## Shifts and rotates (part 2.6) -/

/-- H1. -/
theorem test_asl_acc :
    (after ({ program [0x0A#8] with a := 0x81#8 })).map
        (fun t => (t.a, t.flags, t.pc)) =
      some (0x02#8, bits 0b0000001, 0x0601#16) := by decide

/-- H4. -/
theorem test_asl_zpX :
    (after ({ poke [(0x0015#16, 0xC0#8)] (program [0x16#8, 0x10#8]) with
        x := 0x05#8 })).map
        (fun t => (readByte t 0x0015#16, t.flags, t.pc)) =
      some (0x80#8, bits 0b1000001, 0x0602#16) := by decide

/-- H6. -/
theorem test_lsr_acc :
    (after ({ program [0x4A#8] with a := 0xFF#8, flags := bits 0b1000001 })).map
        (fun t => (t.a, t.flags)) =
      some (0x7F#8, bits 0b0000001) := by decide

/-- H7. -/
theorem test_lsr_zp :
    (after (poke [(0x0010#16, 0x03#8)] (program [0x46#8, 0x10#8]))).map
        (fun t => (readByte t 0x0010#16, t.flags)) =
      some (0x01#8, bits 0b0000001) := by decide

/-- H8. -/
theorem test_rol_acc :
    (after ({ program [0x2A#8] with a := 0x80#8, flags := bits 0b0000001 })).map
        (fun t => (t.a, t.flags)) =
      some (0x01#8, bits 0b0000001) := by decide

/-- H9. -/
theorem test_rol_acc_carry_in :
    (after ({ program [0x2A#8] with a := 0x00#8, flags := bits 0b0000001 })).map
        (fun t => (t.a, t.flags)) =
      some (0x01#8, bits 0b0000000) := by decide

/-- H12. -/
theorem test_ror_acc :
    (after ({ program [0x6A#8] with a := 0x00#8, flags := bits 0b0000001 })).map
        (fun t => (t.a, t.flags)) =
      some (0x80#8, bits 0b1000000) := by decide

/-- H14. -/
theorem test_ror_absX :
    (after ({ poke [(0x0301#16, 0x02#8)] (program [0x7E#8, 0x00#8, 0x03#8]) with
        x := 0x01#8, flags := bits 0b0000001 })).map
        (fun t => (readByte t 0x0301#16, t.flags, t.pc)) =
      some (0x81#8, bits 0b1000000, 0x0603#16) := by decide

/-! ## Branches, jumps, call and return (part 2.7) -/

/-- J1. -/
theorem test_bcc_taken :
    (after (program [0x90#8, 0x04#8])).map
        (fun t => t.pc) =
      some 0x0606#16 := by decide

/-- J2. -/
theorem test_bcc_not_taken :
    (after ({ program [0x90#8, 0x04#8] with flags := bits 0b0000001 })).map
        (fun t => t.pc) =
      some 0x0602#16 := by decide

/-- J3. -/
theorem test_bcs_backward :
    (after ({ program [0xB0#8, 0xFC#8] with flags := bits 0b0000001 })).map
        (fun t => t.pc) =
      some 0x05FE#16 := by decide

/-- J4. -/
theorem test_beq_farthest :
    (after ({ program [0xF0#8, 0x7F#8] with flags := bits 0b0000010 })).map
        (fun t => t.pc) =
      some 0x0681#16 := by decide

/-- J5. -/
theorem test_bne_backward :
    (after (programAt 0x0605#16 [0xD0#8, 0xFB#8])).map
        (fun t => t.pc) =
      some 0x0602#16 := by decide

/-- J10. -/
theorem test_bne_wraps :
    (after (programAt 0xFFFD#16 [0xD0#8, 0x05#8])).map
        (fun t => t.pc) =
      some 0x0004#16 := by decide

/-- J6. -/
theorem test_bmi_farthest_back :
    (after ({ program [0x30#8, 0x80#8] with flags := bits 0b1000000 })).map
        (fun t => t.pc) =
      some 0x0582#16 := by decide

/-- J7. -/
theorem test_bpl :
    (after (program [0x10#8, 0x02#8])).map
        (fun t => t.pc) =
      some 0x0604#16 := by decide

/-- J8. -/
theorem test_bvc_self_jump :
    (after (program [0x50#8, 0xFE#8])).map
        (fun t => t.pc) =
      some 0x0600#16 := by decide

/-- J9. -/
theorem test_bvs_not_taken :
    (after (program [0x70#8, 0x10#8])).map
        (fun t => t.pc) =
      some 0x0602#16 := by decide

/-- J12. -/
theorem test_jmp_abs :
    (after (program [0x4C#8, 0x34#8, 0x12#8])).map
        (fun t => t.pc) =
      some 0x1234#16 := by decide

/-- J14. -/
theorem test_jsr :
    (after (program [0x20#8, 0x00#8, 0x07#8])).map
        (fun t => (readByte t 0x01FF#16, readByte t 0x01FE#16, t.sp, t.pc)) =
      some (0x06#8, 0x02#8, 0xFD#8, 0x0700#16) := by decide

/-- J16. -/
theorem test_jsr_stack_wraps :
    (after ({ program [0x20#8, 0x34#8, 0x12#8] with sp := 0x00#8 })).map
        (fun t => (readByte t 0x0100#16, readByte t 0x01FF#16, t.sp, t.pc)) =
      some (0x06#8, 0x02#8, 0xFE#8, 0x1234#16) := by decide

/-- J15. -/
theorem test_rts :
    (after ({ poke [(0x01FE#16, 0x02#8), (0x01FF#16, 0x06#8)] (program [0x60#8]) with
        sp := 0xFD#8 })).map
        (fun t => (t.pc, t.sp)) =
      some (0x0603#16, 0xFF#8) := by decide

/-- J18. -/
theorem test_rts_wraps :
    (after ({ poke [(0x0100#16, 0xFF#8), (0x0101#16, 0xFF#8)] (program [0x60#8]) with
        sp := 0xFF#8 })).map
        (fun t => (t.sp, t.pc)) =
      some (0x01#8, 0x0000#16) := by decide

/-! ## Stack and flag instructions (part 2.8) -/

/-- S1. -/
theorem test_pha :
    (after ({ program [0x48#8] with a := 0x42#8 })).map
        (fun t => (readByte t 0x01FF#16, t.sp, t.pc)) =
      some (0x42#8, 0xFE#8, 0x0601#16) := by decide

/-- S10. -/
theorem test_pha_wraps :
    (after ({ program [0x48#8] with a := 0x11#8, sp := 0x00#8 })).map
        (fun t => (readByte t 0x0100#16, t.sp)) =
      some (0x11#8, 0xFF#8) := by decide

/-- S2. -/
theorem test_pla :
    (after ({ poke [(0x01FF#16, 0x00#8)] (program [0x68#8]) with
        sp := 0xFE#8, a := 0x05#8 })).map
        (fun t => (t.a, t.flags, t.sp)) =
      some (0x00#8, bits 0b0000010, 0xFF#8) := by decide

/-- S11. -/
theorem test_pla_wraps :
    (after ({ poke [(0x0100#16, 0x80#8)] (program [0x68#8]) with sp := 0xFF#8 })).map
        (fun t => (t.a, t.flags, t.sp)) =
      some (0x80#8, bits 0b1000000, 0x00#8) := by decide

/-- S3. -/
theorem test_php :
    (after ({ program [0x08#8] with flags := bits 0b0000011 })).map
        (fun t => (readByte t 0x01FF#16, t.sp)) =
      some (0x33#8, 0xFE#8) := by decide

/-- S6. -/
theorem test_php_break_not_pushed :
    (after ({ program [0x08#8] with flags := bits 0b0010000 })).map
        (fun t => readByte t 0x01FF#16) =
      some 0x30#8 := by decide

/-- S7. -/
theorem test_plp :
    (after ({ poke [(0x01FF#16, 0xC3#8)] (program [0x28#8]) with sp := 0xFE#8 })).map
        (fun t => (t.flags, t.sp)) =
      some (bits 0b1100011, 0xFF#8) := by decide

/-- S8b. -/
theorem test_plp_bit_5_ignored :
    (after ({ poke [(0x01FF#16, 0x20#8)] (program [0x28#8]) with
        sp := 0xFE#8, flags := bits 0b0010000 })).map
        (fun t => t.flags) =
      some (bits 0b0000000) := by decide

/-- S12. -/
theorem test_clc :
    (after ({ program [0x18#8] with flags := bits 0b0000001 })).map
        (fun t => (t.flags, t.pc)) =
      some (bits 0b0000000, 0x0601#16) := by decide

/-- S13. -/
theorem test_sec :
    (after (program [0x38#8])).map
        (fun t => t.flags) =
      some (bits 0b0000001) := by decide

/-- S14. -/
theorem test_cli :
    (after ({ program [0x58#8] with flags := bits 0b0000100 })).map
        (fun t => t.flags) =
      some (bits 0b0000000) := by decide

/-- S15. -/
theorem test_sei :
    (after (program [0x78#8])).map
        (fun t => t.flags) =
      some (bits 0b0000100) := by decide

/-- S16. -/
theorem test_cld :
    (after ({ program [0xD8#8] with flags := bits 0b0001000 })).map
        (fun t => t.flags) =
      some (bits 0b0000000) := by decide

/-- S17. -/
theorem test_sed :
    (after (program [0xF8#8])).map
        (fun t => t.flags) =
      some (bits 0b0001000) := by decide

/-- S18. -/
theorem test_clv :
    (after ({ program [0xB8#8] with flags := bits 0b0100000 })).map
        (fun t => t.flags) =
      some (bits 0b0000000) := by decide

/-- S19. -/
theorem test_nop :
    (after ({ program [0xEA#8] with flags := bits 0b1000011 })).map
        (fun t => (t.flags, t.pc)) =
      some (bits 0b1000011, 0x0601#16) := by decide

/-! ## BRK and RTI (part 2.9) -/

/-- K2. -/
theorem test_brk :
    (after ({ poke [(0xFFFE#16, 0x00#8), (0xFFFF#16, 0x07#8)] (program [0x00#8]) with
        flags := bits 0b1001101 })).map
        (fun t => (readByte t 0x01FF#16, readByte t 0x01FE#16, readByte t 0x01FD#16, t.sp, t.flags,
        t.pc)) =
      some (0x06#8, 0x02#8, 0xBD#8, 0xFC#8, bits 0b1011101, 0x0700#16) := by decide

/-- K3. -/
theorem test_brk_stack_wraps :
    (after ({ poke [(0xFFFE#16, 0x34#8), (0xFFFF#16, 0x12#8)] (program [0x00#8]) with
        sp := 0x01#8 })).map
        (fun t => (readByte t 0x0101#16, readByte t 0x0100#16, readByte t 0x01FF#16, t.sp, t.flags,
        t.pc)) =
      some (0x06#8, 0x02#8, 0x30#8, 0xFE#8, bits 0b0010100, 0x1234#16) := by decide

/-- K6. -/
theorem test_rti :
    (after ({ poke [(0x01FD#16, 0xC3#8), (0x01FE#16, 0x34#8), (0x01FF#16, 0x12#8)]
        (program [0x40#8]) with
        sp := 0xFC#8 })).map
        (fun t => (t.flags, t.pc, t.sp)) =
      some (bits 0b1100011, 0x1234#16, 0xFF#8) := by decide

/-- K8. -/
theorem test_rti_wraps :
    (after ({ poke [(0x01FF#16, 0x00#8), (0x0100#16, 0x78#8), (0x0101#16, 0x56#8)]
        (program [0x40#8]) with
        sp := 0xFE#8, flags := bits 0b1111111 })).map
        (fun t => (t.flags, t.pc, t.sp)) =
      some (bits 0b0000000, 0x5678#16, 0x01#8) := by decide

/-! ## Instructions of the illegal table (part 2.10) -/

/-- X1. -/
theorem test_lax_zp :
    (after (poke [(0x0010#16, 0x80#8)] (illegal [0xA7#8, 0x10#8]))).map
        (fun t => (t.a, t.x, t.flags, t.pc)) =
      some (0x80#8, 0x80#8, bits 0b1000000, 0x0602#16) := by decide

/-- X3. -/
theorem test_lax_absY :
    (after ({ poke [(0x03FF#16, 0xFF#8)] (illegal [0xBF#8, 0x00#8, 0x03#8]) with
        y := 0xFF#8 })).map
        (fun t => (t.a, t.x, t.pc)) =
      some (0xFF#8, 0xFF#8, 0x0603#16) := by decide

/-- X6. -/
theorem test_sax_zpY :
    (after ({ illegal [0x97#8, 0x10#8] with
        a := 0xFF#8, x := 0x0F#8, y := 0x01#8, flags := bits 0b1000010 })).map
        (fun t => (readByte t 0x0011#16, t.flags)) =
      some (0x0F#8, bits 0b1000010) := by decide

/-- X7. -/
theorem test_sax_indX :
    (after ({ poke [(0x002A#16, 0x00#8), (0x002B#16, 0x04#8)] (illegal [0x83#8, 0x20#8]) with
        a := 0xAA#8, x := 0x0A#8 })).map
        (fun t => readByte t 0x0400#16) =
      some 0x0A#8 := by decide

/-- X9. -/
theorem test_slo_zp :
    (after ({ poke [(0x0010#16, 0x81#8)] (illegal [0x07#8, 0x10#8]) with
        a := 0x01#8 })).map
        (fun t => (readByte t 0x0010#16, t.a, t.flags)) =
      some (0x02#8, 0x03#8, bits 0b0000001) := by decide

/-- X10. -/
theorem test_slo_absY :
    (after ({ poke [(0x0302#16, 0x40#8)] (illegal [0x1B#8, 0x00#8, 0x03#8]) with
        a := 0x10#8, y := 0x02#8 })).map
        (fun t => (readByte t 0x0302#16, t.a, t.flags)) =
      some (0x80#8, 0x90#8, bits 0b1000000) := by decide

/-- X11. -/
theorem test_rla_zp :
    (after ({ poke [(0x0010#16, 0x40#8)] (illegal [0x27#8, 0x10#8]) with
        a := 0xFF#8, flags := bits 0b0000001 })).map
        (fun t => (readByte t 0x0010#16, t.a, t.flags)) =
      some (0x81#8, 0x81#8, bits 0b1000000) := by decide

/-- X13. -/
theorem test_sre_zp :
    (after ({ poke [(0x0010#16, 0x03#8)] (illegal [0x47#8, 0x10#8]) with
        a := 0x01#8 })).map
        (fun t => (readByte t 0x0010#16, t.a, t.flags)) =
      some (0x01#8, 0x00#8, bits 0b0000011) := by decide

/-- X16. -/
theorem test_rra_zp :
    (after ({ poke [(0x0010#16, 0x01#8)] (illegal [0x67#8, 0x10#8]) with
        a := 0xFF#8, flags := bits 0b0000001 })).map
        (fun t => (readByte t 0x0010#16, t.a, t.flags)) =
      some (0x80#8, 0x80#8, bits 0b1000001) := by decide

/-- X17. -/
theorem test_rra_zp_decimal :
    (after ({ poke [(0x0010#16, 0x12#8)] (illegal [0x67#8, 0x10#8]) with
        a := 0x19#8, flags := bits 0b0001001 })).map
        (fun t => (readByte t 0x0010#16, t.a, t.flags)) =
      some (0x89#8, 0x08#8, bits 0b0001001) := by decide

/-- X20. -/
theorem test_dcp_zp :
    (after ({ poke [(0x0010#16, 0x21#8)] (illegal [0xC7#8, 0x10#8]) with
        a := 0x10#8 })).map
        (fun t => (readByte t 0x0010#16, t.a, t.flags)) =
      some (0x20#8, 0x10#8, bits 0b1000000) := by decide

/-- X23. -/
theorem test_isc_zp :
    (after ({ poke [(0x0010#16, 0x01#8)] (illegal [0xE7#8, 0x10#8]) with
        a := 0x05#8 })).map
        (fun t => (readByte t 0x0010#16, t.a, t.flags)) =
      some (0x02#8, 0x02#8, bits 0b0000001) := by decide

/-- X24. -/
theorem test_isc_zp_decimal :
    (after ({ poke [(0x0010#16, 0x04#8)] (illegal [0xE7#8, 0x10#8]) with
        a := 0x20#8, flags := bits 0b0001001 })).map
        (fun t => (readByte t 0x0010#16, t.a, t.flags)) =
      some (0x05#8, 0x15#8, bits 0b0001001) := by decide

/-- X26. -/
theorem test_nop_imm :
    (after (illegal [0x80#8, 0xFF#8])).map
        (fun t => (t.pc, t.flags)) =
      some (0x0602#16, bits 0b0000000) := by decide

/-- X27. -/
theorem test_nop_zp :
    (after ({ poke [(0x0010#16, 0xFF#8)] (illegal [0x04#8, 0x10#8]) with
        flags := bits 0b1000001 })).map
        (fun t => (t.a, t.flags, t.pc)) =
      some (0x00#8, bits 0b1000001, 0x0602#16) := by decide

/-- X30. -/
theorem test_nop_absX :
    (after ({ illegal [0x1C#8, 0xFF#8, 0xFF#8] with x := 0x02#8 })).map
        (fun t => t.pc) =
      some 0x0603#16 := by decide

/-! ## The fault (part 2.11) -/

/-- F1, F2: an unmapped byte faults in every configuration, and PC is past it. -/
theorem test_unmapped_faults :
    faultOf (program [0x02#8]) = some (.unimplementedOpcode 0x02#8) ∧
      faultOf (illegal [0x02#8]) = some (.unimplementedOpcode 0x02#8) ∧
      (stateAfterFault (program [0x02#8])).pc = 0x0601#16 := by decide

/-- F3, E11: an illegal-table byte faults with illegal opcodes disabled. -/
theorem test_illegal_faults_when_disabled :
    faultOf (program [0xA7#8, 0x10#8]) = some (.unimplementedOpcode 0xA7#8) := by decide

/-- F8: PC wraps past a fault at 0xFFFF. -/
theorem test_fault_pc_wraps :
    (hostStep (programAt 0xFFFF#16 [0x02#8])).map (fun r => (r.1, r.2.pc)) =
      some (.unimplementedOpcode 0x02#8, 0x0000#16) := by decide

/-! ## Reset and host operations (part 2.12) -/

/-- Z1. -/
theorem test_reset :
    (State.reset.a, State.reset.x, State.reset.y, State.reset.sp, State.reset.pc) =
        (0x00#8, 0x00#8, 0x00#8, 0xFF#8, 0x0600#16) ∧
      State.reset.flags = bits 0 ∧ readByte State.reset 0xFFFE#16 = 0x00#8 ∧
      State.reset.config.allowIllegalOps = false := by decide

/-- Z2, Z3: a reset from any state gives the configured PC and clears registers and memory. -/
theorem test_host_reset :
    hostReset { poke [(0x0200#16, 0x0F#8)] (State.powerOn { initialPc := 0x8000#16 }) with
        a := 0x0F#8, pc := 0x1234#16, flags := bits 0b0000010 } =
      State.powerOn { initialPc := 0x8000#16 } := by decide

/-- Z4. -/
theorem test_host_load :
    (readByte (hostLoad { State.reset with a := 0x12#8 } [0xA9#8, 0x01#8]) 0x0601#16,
      (hostLoad { State.reset with a := 0x12#8 } [0xA9#8, 0x01#8]).a,
      (hostLoad State.reset [0xA9#8, 0x01#8]).pc) = (0x01#8, 0x00#8, 0x0600#16) := by decide

/-- Z5, Z6: the form that does not reset, and the wrap. -/
theorem test_host_load_image :
    let t := hostLoadImage { State.reset with a := 0x12#8 } [0x11#8, 0x22#8] 0xFFFF#16
    (readByte t 0xFFFF#16, readByte t 0x0000#16, t.a) = (0x11#8, 0x22#8, 0x12#8) := by decide

/-- Z7: after vector K1. -/
theorem test_host_dump :
    (after (program [0x00#8])).map (fun t => hostDumpMemory t 0x01FD#16 3) =
      some [0x30#8, 0x02#8, 0x06#8] := by decide

/-- R21, R262: the debug ports show B, and no packed status. -/
theorem test_debug_ports :
    (debugPorts { State.reset with sp := 0x80#8, flags := bits 0b0010001 }).break_ = true ∧
      (debugPorts { State.reset with sp := 0x80#8, flags := bits 0b0010001 }).sp = 0x80#8 := by
  decide

/-! ## Running an instruction the host places -/

/-- A legal row runs as the first instruction after reset: JMP absolute. -/
theorem test_withFetchWord_legal :
    (after (State.reset.withFetchWord 24 0x12344C)).map (fun t => t.pc) = some 0x1234#16 := by
  decide

/-- So does a row of the illegal table: LAX zero page, reading the opcode-free cell 0x0010. -/
theorem test_withFetchWord_illegal :
    (after (State.reset.withFetchWord 16 0x10A7)).map (fun t => (t.pc, t.flags)) =
      some (0x0602#16, bits 0b0000010) := by decide

/-! ## The memory's canonical form -/

/-- Equal contents are equal lists, whatever the order of the writes, and writing 0x00 removes. -/
theorem test_memory_canonical :
    (poke [(0x0002#16, 0x05#8), (0x0001#16, 0x07#8), (0x0003#16, 0x09#8), (0x0003#16, 0x00#8)]
        State.reset).mem = [(1, 0x07#8), (2, 0x05#8)] ∧
      Memory.wf [(1, 0x07#8), (2, 0x05#8)] = true ∧
      Memory.wf [(2, 0x05#8), (1, 0x07#8)] = false ∧
      Memory.wf [(1, 0x00#8)] = false ∧ Memory.wf [(65536, 0x01#8)] = false := by decide

/-! ## Witnesses: each statement with hypotheses, and states and operands that meet them -/

/-- A machine in use: code, a vector, stack contents, all registers and some flags set. -/
def busy (code : List Byte) : State :=
  { poke [(0xFFFE#16, 0x00#8), (0xFFFF#16, 0x07#8), (0x01FF#16, 0x12#8), (0x0010#16, 0x80#8)]
      (program code) with
    a := 0x99#8, x := 0xFF#8, y := 0x01#8, sp := 0xFC#8, flags := bits 0b1001101 }

theorem test_witness_StepKeepsInvariant :
    (busy [0x00#8]).Inv {} ∧ ∃ t, step (busy [0x00#8]) = .next t :=
  ⟨by decide, _, rfl⟩

theorem test_witness_MemoryReadsLastWrite :
    (0x0000#16 : Addr) ≠ 0xFFFF#16 ∧ (0x0100#16 : Addr) ≠ 0x00FF#16 := by decide

/-- At both ends of the stack page. -/
theorem test_witness_PushAndPop :
    (0x01FE#16 : Addr) ≠ BitVec.ofNat 16 (0x0100 + 0xFF) ∧
      (0x01FF#16 : Addr) ≠ BitVec.ofNat 16 (0x0100 + 0x00) := by decide

theorem test_witness_StackIsLifo :
    runLifo [.push 0x01#8, .push 0x02#8, .pop, .push 0x03#8, .pop, .pop] [] =
      some [0x02#8, 0x03#8, 0x01#8] := by decide

/-- The most bytes a stack can hold, and one more. -/
theorem test_witness_StackIsLifo_limit :
    runLifo [.push 0x01#8, .pop] (List.replicate 255 0x00#8) = some [0x01#8] ∧
      runLifo [.push 0x01#8] (List.replicate 256 0x00#8) = none := by
  constructor <;> (unfold runLifo; rw [List.length_replicate]; rfl)

theorem test_witness_BinarySubtract : (bits 0b1110111).d = false := by decide

theorem test_witness_DecimalArithmeticIsBcd :
    (0 < 100 ∧ 99 < 100) ∧ (bcd 99, bcd 0) = (0x99#8, 0x00#8) := by decide

/-- One pair below the correction, one above it at the ends of every range. -/
theorem test_witness_DecimalAddOnAllNibbles :
    (∃ t, t = (if 4 + 5 + bitOf (bits 0).c < 10 then 4 + 5 + bitOf (bits 0).c
        else 16 + (4 + 5 + bitOf (bits 0).c + 6) % 16) + 16 * 0 + 16 * 0 ∧ t = 9) ∧
      ∃ t, t = (if 15 + 15 + bitOf (bits 1).c < 10 then 15 + 15 + bitOf (bits 1).c
        else 16 + (15 + 15 + bitOf (bits 1).c + 6) % 16) + 16 * 15 + 16 * 15 ∧ t = 501 :=
  ⟨⟨_, rfl, rfl⟩, _, rfl, rfl⟩

/-- No borrow, and a borrow out of both nibbles, at the ends of every range. -/
theorem test_witness_DecimalSubtractOnAllNibbles :
    (∃ low h : Int,
        low = ((15 : Nat) : Int) - (0 : Nat) - (1 - bitOf (bits 1).c)
          + (if 15 + bitOf (bits 1).c < 0 + 1 then 10 else 0) ∧
        h = ((15 : Nat) : Int) - (0 : Nat) - (if 15 + bitOf (bits 1).c < 0 + 1 then 1 else 0) ∧
        low = 15 ∧ h = 15) ∧
      ∃ low h : Int,
        low = ((0 : Nat) : Int) - (15 : Nat) - (1 - bitOf (bits 0).c)
          + (if 0 + bitOf (bits 0).c < 15 + 1 then 10 else 0) ∧
        h = ((0 : Nat) : Int) - (15 : Nat) - (if 0 + bitOf (bits 0).c < 15 + 1 then 1 else 0) ∧
        low = -6 ∧ h = -16 :=
  ⟨⟨_, _, rfl, rfl, rfl, rfl⟩, _, _, rfl, rfl, rfl, rfl⟩

theorem test_witness_ShiftsAndRotates :
    ∃ op ∈ [asl, lsr, rol, ror], (op 0x81#8 (bits 0)).1 = 0x40#8 :=
  ⟨lsr, by simp, rfl⟩

theorem test_witness_IncrementAndDecrement :
    ∃ op ∈ [inc, dec], (op 0xFF#8 (bits 0)).1 = 0x00#8 :=
  ⟨inc, by simp, rfl⟩

theorem test_witness_LogicAndBitTest :
    (7 < 8 ∧ 0 < 8) ∧ ∃ op ∈ [andA, oraA, eorA], (op 0xFF#8 0x0F#8 (bits 0)).1 = 0xF0#8 :=
  ⟨by decide, eorA, by simp, rfl⟩

theorem test_witness_BreakTrapsAndRtiReturns :
    ∃ t, t = push (encodeStatus (bits 0b1001101))
      (push (loByte 0x0602#16) (push (hiByte 0x0602#16) (busy [0x00#8]))) ∧
      readByte t 0x01FA#16 = 0xBD#8 :=
  ⟨_, rfl, by decide⟩

theorem test_witness_EncodeThenDecode :
    Instr.wf false (.ldaAbsX 0xFFFF#16) = true ∧
      Instr.wf true (.iscIndY 0xFF#8) = true := by decide

theorem test_witness_DecodeThenEncode :
    decode false [0x4C#8, 0xFF#8, 0xFF#8, 0x02#8] = .instr (.jmpAbs 0xFFFF#16) [0x02#8] := by decide

/-- Each clause: unmapped; illegal and disabled; illegal and enabled; legal. -/
theorem test_witness_StepFaultsOnlyOnUnmappedOpcode :
    (readByte (program [0xF2#8]) 0x0600#16).toNat ∈ unmappedBytes ∧
      (readByte (program [0xFF#8]) 0x0600#16).toNat ∈ illegalBytes ∧
      ((readByte (illegal [0xFF#8]) 0x0600#16).toNat ∉ unmappedBytes ∧
        (illegal [0xFF#8]).config.allowIllegalOps = true) ∧
      ((readByte (program [0xFE#8]) 0x0600#16).toNat ∉ unmappedBytes ∧
        (readByte (program [0xFE#8]) 0x0600#16).toNat ∉ illegalBytes) := by decide

/-- A three-byte instruction across the end of the address space. -/
theorem test_witness_StepRunsDecodedInstruction :
    let s := programAt 0xFFFE#16 [0xAD#8, 0x10#8, 0x02#8]
    decode s.config.allowIllegalOps
        [readByte s s.pc, readByte s (s.pc + 1#16), readByte s (s.pc + 2#16)] =
      .instr (.ldaAbs 0x0210#16) [] := by decide

theorem test_witness_PcAdvancesByLength :
    let s := programAt 0xFFFE#16 [0xAD#8, 0x10#8, 0x02#8]
    decode s.config.allowIllegalOps
        [readByte s s.pc, readByte s (s.pc + 1#16), readByte s (s.pc + 2#16)] =
        .instr (.ldaAbs 0x0210#16) [] ∧
      (Instr.ldaAbs 0x0210#16).mnemonic ∉ controlTransfers ∧
      (after s).isSome = true := by decide

/-- A shift in memory leaves A; its accumulator form does not. -/
theorem test_witness_RegistersNotWrittenAreUnchanged :
    (∃ t, exec (.aslZp 0x10#8) (busy []) = .next t) ∧
      writesReg (.aslZp 0x10#8) .a = false ∧ writesReg .aslAcc .a = true ∧
      writesReg .aslAcc .x = false :=
  ⟨⟨_, rfl⟩, by decide⟩

theorem test_witness_FlagsNotWrittenAreUnchanged :
    (∃ t, exec (.incZp 0x10#8) (busy []) = .next t) ∧
      (Instr.incZp 0x10#8).mnemonic ∉ FlagName.c.writers :=
  ⟨⟨_, rfl⟩, by decide⟩

/-- The neighbours of a stored cell, and every cell for a form that stores nothing. -/
theorem test_witness_MemoryNotStoredToIsUnchanged :
    (∃ t, exec (.staAbs 0x0200#16) (busy []) = .next t) ∧
      writesCell (dataAccesses (.staAbs 0x0200#16) (busy [])) 0x01FF#16 = false ∧
      writesCell (dataAccesses (.staAbs 0x0200#16) (busy [])) 0x0201#16 = false ∧
      writesCell (dataAccesses (.staAbs 0x0200#16) (busy [])) 0x0200#16 = true ∧
      writesCell (dataAccesses (.cmpAbs 0x0200#16) (busy [])) 0x0200#16 = false :=
  ⟨⟨_, rfl⟩, by decide⟩

/-- A memory that differs from the state's, but not in the one cell LDA reads. -/
theorem test_witness_ExecDependsOnCellsItReads :
    ∀ addr : Addr, readsCell (dataAccesses (.ldaZp 0x10#8) (busy [])) addr = true →
      Memory.read [(0x0010, 0x80#8), (0x0300, 0x55#8)] addr.toNat = readByte (busy []) addr := by
  have only : ∀ s addr, readsCell (dataAccesses (.ldaZp 0x10#8) s) addr = true →
      addr = 0x0010#16 := by
    intro s addr h
    rw [show dataAccesses (.ldaZp 0x10#8) s = [.read 0x0010#16] from rfl] at h
    simp only [readsCell, List.any_cons, List.any_nil, Bool.or_false, beq_iff_eq] at h
    exact h.symm
  intro addr h
  rw [only _ _ h]
  decide

theorem test_witness_FlagsNotReadDoNotMatter :
    (Instr.adcImm 0x01#8).mnemonic ∉ FlagName.v.readers ∧
      Instr.brk.mnemonic ∉ FlagName.b.readers ∧ Instr.ldaImm 0x01#8 ≠ .brk := by decide

theorem test_witness_BreakThenReturnResumes : ∃ t, exec .brk (busy []) = .next t := ⟨_, rfl⟩

theorem test_witness_CallThenReturnResumes :
    ∃ t, exec (.jsr 0x0700#16) { busy [] with sp := 0x00#8 } = .next t := ⟨_, rfl⟩

theorem test_witness_HostLoadsAndDumps :
    ([0x11#8, 0x22#8] : List Byte).length ≤ 65536 ∧
      ([] : List Byte).length ≤ 65536 := by decide

/-- J13, and each of the eight branches, taken, with offset 0xFE. -/
theorem test_witness_SelfJumps :
    (readByte (program [0x4C#8, 0x00#8, 0x06#8]) 0x0600#16 = 0x4C#8 ∧
      readByte (program [0x4C#8, 0x00#8, 0x06#8]) 0x0601#16 = loByte 0x0600#16 ∧
      readByte (program [0x4C#8, 0x00#8, 0x06#8]) 0x0602#16 = hiByte 0x0600#16) ∧
    ∀ r ∈ [(0x90#8, 0, FlagName.c, false), (0xB0#8, 0b0000001, .c, true),
        (0xF0#8, 0b0000010, .z, true), (0xD0#8, 0, .z, false), (0x30#8, 0b1000000, .n, true),
        (0x10#8, 0, .n, false), (0x50#8, 0, .v, false), (0x70#8, 0b0100000, .v, true)],
      readByte { program [r.1, 0xFE#8] with flags := bits r.2.1 } 0x0600#16 = r.1 ∧
        readByte { program [r.1, 0xFE#8] with flags := bits r.2.1 } 0x0601#16 = 0xFE#8 ∧
        (bits r.2.1).get r.2.2.1 = r.2.2.2 := by decide

end Sys2Proof.Tests
end

section
/-! The state family (spec/10_state.md): reset, the packed status, and the B flag, which no
instruction reads. -/

namespace Sys2Proof.Laws

open Sys2Proof.Machine

/-! ## Reset (R32, R250) -/

/-- R29: no cell is listed after reset, so each reads 0x00. -/
@[simp] theorem readByte_powerOn (cfg : Config) (addr : Addr) :
    readByte (State.powerOn cfg) addr = 0x00#8 := rfl

/-! ## The bits of the packed status (R22, R23) -/

/-- A byte is the sum of its bits. -/
theorem toNat_eq_sum_bits (p : Byte) : p.toNat =
    128 * bitOf (p.getLsbD 7) + 64 * bitOf (p.getLsbD 6) + 32 * bitOf (p.getLsbD 5)
      + 16 * bitOf (p.getLsbD 4) + 8 * bitOf (p.getLsbD 3) + 4 * bitOf (p.getLsbD 2)
      + 2 * bitOf (p.getLsbD 1) + bitOf (p.getLsbD 0) := by
  revert p; decide

theorem statusBit_getLsbD (v : Bool) {position : Nat} (h : position < 8) (j : Nat) :
    (statusBit v position).getLsbD j = (decide (j = position) && v) := by
  cases v with
  | false => simp [statusBit]
  | true =>
    have hj : j < 8 ∧ position ≤ j ∧ j - position = 0 ↔ j = position := by omega
    rw [statusBit, if_pos rfl, BitVec.getLsbD_shiftLeft, BitVec.getLsbD_one, Bool.eq_iff_iff]
    simpa [and_assoc] using hj

/-- R22 at any position. -/
theorem encodeStatus_getLsbD (f : Flags) (j : Nat) : (encodeStatus f).getLsbD j =
    (decide (j = 7) && f.n || decide (j = 6) && f.v || (0x30#8).getLsbD j || decide (j = 3) && f.d
      || decide (j = 2) && f.i || decide (j = 1) && f.z || decide (j = 0) && f.c) := by
  simp [encodeStatus, statusBit_getLsbD]

/-- R22 bit by bit, from bit 7 down. -/
theorem encodeStatus_bits (f : Flags) :
    (encodeStatus f).getLsbD 7 = f.n ∧ (encodeStatus f).getLsbD 6 = f.v ∧
    (encodeStatus f).getLsbD 5 = true ∧ (encodeStatus f).getLsbD 4 = true ∧
    (encodeStatus f).getLsbD 3 = f.d ∧ (encodeStatus f).getLsbD 2 = f.i ∧
    (encodeStatus f).getLsbD 1 = f.z ∧ (encodeStatus f).getLsbD 0 = f.c := by
  simp only [encodeStatus_getLsbD]
  simp

/-- R22 as a number. -/
theorem encodeStatus_toNat (f : Flags) : (encodeStatus f).toNat =
    0x30 + 128 * bitOf f.n + 64 * bitOf f.v + 8 * bitOf f.d + 4 * bitOf f.i + 2 * bitOf f.z
      + bitOf f.c := by
  obtain ⟨h7, h6, h5, h4, h3, h2, h1, h0⟩ := encodeStatus_bits f
  have one : bitOf true = 1 := rfl
  rw [toNat_eq_sum_bits, h7, h6, h5, h4, h3, h2, h1, h0]
  omega

/-- R23: bit 5 is ignored. -/
theorem decodeStatus_flip_bit5 (p : Byte) : decodeStatus (p ^^^ 0x20#8) = decodeStatus p := by
  simp [decodeStatus]

/-! ## A flag no one looks at: the fetch, the addresses and the operands (any flag) -/

section
variable (name : FlagName) (w : Bool) (s : State)

@[simp] theorem putFlag_a : (s.putFlag name w).a = s.a := rfl
@[simp] theorem putFlag_flags : (s.putFlag name w).flags = s.flags.put name w := rfl

theorem ea_putFlag (m : MemMode) : ea m (s.putFlag name w) = ea m s := by
  cases m <;> rfl

theorem memOperand_putFlag (m : MemMode) : memOperand m (s.putFlag name w) = memOperand m s :=
  congrArg (readByte s) (ea_putFlag name w s m)

theorem source_putFlag (mode : Mode) : source mode (s.putFlag name w) = source mode s := by
  cases mode with
  | mem m => exact memOperand_putFlag name w s m
  | _ => rfl

theorem fetchOperands_putFlag (shape : Shape) :
    fetchOperands shape (s.putFlag name w) =
      ((fetchOperands shape s).1, (fetchOperands shape s).2.putFlag name w) := by
  cases shape <;> rfl

/-- Two states that differ in one flag fetch alike: both meet the same fault, or both run the same
instruction, in states that differ in that flag alone. -/
theorem step_putFlag_cases :
    (∃ op, step s = .fault (.unimplementedOpcode op) ∧
      step (s.putFlag name w) = .fault (.unimplementedOpcode op)) ∨
    ∃ i s', step s = exec i s' ∧ step (s.putFlag name w) = exec i (s'.putFlag name w) := by
  cases h : lookup s.config.allowIllegalOps (readByte s s.pc) with
  | none => exact .inl ⟨_, step_of_none h, step_of_none (s := s.putFlag name w) h⟩
  | some shape =>
    have hput : step (s.putFlag name w) =
        exec (fetchOperands shape ((s.setPc (s.pc + 1#16)).putFlag name w)).1
          (fetchOperands shape ((s.setPc (s.pc + 1#16)).putFlag name w)).2 :=
      step_of_some (s := s.putFlag name w) h
    rw [fetchOperands_putFlag] at hput
    exact .inr ⟨_, _, step_of_some h, hput⟩

end

/-! ## Primitives and patterns that pass a flag on -/

/-- A primitive on a byte neither reads nor writes the flag: it commutes with replacing it. -/
def UnaryPasses (name : FlagName) (f : Unary) : Prop :=
  ∀ v fl w, f v (fl.put name w) = ((f v fl).1, (f v fl).2.put name w)

/-- The same for a primitive on A and a byte. -/
def BinaryPasses (name : FlagName) (f : Binary) : Prop :=
  ∀ a v fl w, f a v (fl.put name w) = ((f a v fl).1, (f a v fl).2.put name w)

section
variable {name : FlagName} {f : Unary} {g : Binary}

theorem accOp_putFlag (hg : BinaryPasses name g) (v : Byte) (s : State) (w : Bool) :
    accOp g v (s.putFlag name w) = (accOp g v s).putFlag name w := by
  rw [accOp, putFlag_a, putFlag_flags, hg]
  rfl

theorem rmwAcc_putFlag (hf : UnaryPasses name f) (s : State) (w : Bool) :
    rmwAcc f (s.putFlag name w) = (rmwAcc f s).putFlag name w := by
  rw [rmwAcc, putFlag_a, putFlag_flags, hf]
  rfl

theorem rmwMem_putFlag (hf : UnaryPasses name f) (m : MemMode) (s : State) (w : Bool) :
    rmwMem f m (s.putFlag name w) = (rmwMem f m s).putFlag name w := by
  rw [rmwMem, memOperand_putFlag, ea_putFlag, putFlag_flags, hf]
  rfl

theorem comboMem_putFlag (hf : UnaryPasses name f) (hg : BinaryPasses name g) (m : MemMode)
    (s : State) (w : Bool) :
    comboMem f g m (s.putFlag name w) = (comboMem f g m s).putFlag name w := by
  rw [comboMem, rmwMem_putFlag hf, accOp_putFlag hg, memOperand_putFlag, putFlag_flags, hf,
    comboMem]

theorem onCell_putFlag {k : MemMode → State → State} {s : State} {w : Bool}
    (hk : ∀ m, k m (s.putFlag name w) = (k m s).putFlag name w) (mode : Mode) :
    onCell k mode (s.putFlag name w) = (onCell k mode s).putFlag name w := by
  cases mode with
  | mem m => exact hk m
  | _ => rfl

theorem store_putFlag (m : MemMode) (v : Byte) (s : State) (w : Bool) :
    store m v (s.putFlag name w) = (store m v s).putFlag name w := by
  rw [store, ea_putFlag]
  rfl

theorem onTarget_putFlag (hf : UnaryPasses name f) (mode : Mode) (s : State) (w : Bool) :
    onTarget f mode (s.putFlag name w) = (onTarget f mode s).putFlag name w := by
  cases mode with
  | accumulator => exact rmwAcc_putFlag hf s w
  | mem m => exact rmwMem_putFlag hf m s w
  | _ => rfl

theorem onBranch_putFlag (cond : Bool) (mode : Mode) (s : State) (w : Bool) :
    onBranch cond mode (s.putFlag name w) = (onBranch cond mode s).putFlag name w := by
  cases mode with
  | relative off => cases cond <;> rfl
  | _ => rfl

theorem onJump_putFlag (mode : Mode) (s : State) (w : Bool) :
    onJump mode (s.putFlag name w) = (onJump mode s).putFlag name w := by
  cases mode with
  | mem m => rw [onJump, ea_putFlag]; rfl
  | _ => rfl

theorem onCall_putFlag (mode : Mode) (s : State) (w : Bool) :
    onCall mode (s.putFlag name w) = (onCall mode s).putFlag name w := by
  cases mode with
  | mem m => rw [onCall, ea_putFlag]; rfl
  | _ => rfl

end

/-! ## The B flag (R24) -/

theorem adc_passes_b : BinaryPasses .b adc := by
  intro a v fl w
  obtain ⟨r, c', v', h⟩ := adc_form a v fl.c fl.d
  rw [h fl rfl rfl, h (fl.put .b w) rfl rfl]
  rfl

theorem sbc_passes_b : BinaryPasses .b sbc := by
  intro a v fl w
  obtain ⟨r, c', v', h⟩ := sbc_form a v fl.c fl.d
  rw [h fl rfl rfl, h (fl.put .b w) rfl rfl]
  rfl

/-- The instructions that write B (BRK, PLP, RTI) do so whatever it was: they forget it. -/
theorem meaningOf_putFlag_b_of_writer {mn : Mnemonic} (h : mn ∈ FlagName.b.writers) (mode : Mode)
    (s : State) (w : Bool) : meaningOf mn mode (s.putFlag .b w) = meaningOf mn mode s := by
  simp only [FlagName.writers, List.mem_cons, List.not_mem_nil, or_false] at h
  obtain rfl | rfl | rfl := h <;> rfl

/-- Every other instruction passes B on. -/
theorem meaningOf_putFlag_b {mn : Mnemonic} (h : mn ∉ FlagName.b.writers) (mode : Mode)
    (s : State) (w : Bool) :
    meaningOf mn mode (s.putFlag .b w) = (meaningOf mn mode s).putFlag .b w := by
  cases mn with
  | brk | plp | rti => exact absurd (by decide) h
  | adc => rw [meaningOf, source_putFlag]; exact accOp_putFlag adc_passes_b _ s w
  | sbc => rw [meaningOf, source_putFlag]; exact accOp_putFlag sbc_passes_b _ s w
  | lda | ldx | ldy | lax | and | ora | eor | cmp | cpx | cpy | bit =>
    rw [meaningOf, source_putFlag]; rfl
  | sta | stx | sty | sax => exact onCell_putFlag (fun m => store_putFlag m _ s w) mode
  | inc | dec => exact onCell_putFlag (fun m => rmwMem_putFlag (fun _ _ _ => rfl) m s w) mode
  | asl | lsr | rol | ror => exact onTarget_putFlag (fun _ _ _ => rfl) mode s w
  | slo | rla | sre | dcp =>
    exact onCell_putFlag
      (fun m => comboMem_putFlag (fun _ _ _ => rfl) (fun _ _ _ _ => rfl) m s w) mode
  | rra =>
    exact onCell_putFlag (fun m => comboMem_putFlag (fun _ _ _ => rfl) adc_passes_b m s w) mode
  | isc =>
    exact onCell_putFlag (fun m => comboMem_putFlag (fun _ _ _ => rfl) sbc_passes_b m s w) mode
  | bcc | bcs | beq | bne | bmi | bpl | bvc | bvs => exact onBranch_putFlag _ mode s w
  | jmp => exact onJump_putFlag mode s w
  | jsr => exact onCall_putFlag mode s w
  | tax | tay | txa | tya | tsx | txs | inx | iny | dex | dey
  | rts | pha | pla | php | clc | sec | cli | sei | cld | sed | clv | nop | nopIll => rfl

/-- What an instruction makes of two states that differ in B alone differs in B alone. -/
theorem meaningOf_agree_but_b (mn : Mnemonic) (mode : Mode) (s : State) (w : Bool) :
    (meaningOf mn mode (s.putFlag .b w)).putFlag .b false =
      (meaningOf mn mode s).putFlag .b false := by
  by_cases h : mn ∈ FlagName.b.writers
  · rw [meaningOf_putFlag_b_of_writer h]
  · rw [meaningOf_putFlag_b h]
    rfl

/-- A step keeps the relation "differs at most in B", and its fault does not depend on B. -/
theorem step_agree_but_b (s : State) (w : Bool) :
    (∃ t u, step s = .next t ∧ step (s.putFlag .b w) = .next u ∧
      u.putFlag .b false = t.putFlag .b false) ∨
    (∃ op, step s = .fault (.unimplementedOpcode op) ∧
      step (s.putFlag .b w) = .fault (.unimplementedOpcode op)) := by
  obtain hfault | ⟨i, s', hs, hput⟩ := step_putFlag_cases .b w s
  · exact .inr hfault
  · exact .inl ⟨_, _, hs.trans (exec_eq i s'), hput.trans (exec_eq i _),
      meaningOf_agree_but_b i.mnemonic i.mode s' w⟩

end Sys2Proof.Laws

namespace Sys2Proof.Proofs

open Sys2Proof.Machine Sys2Proof.Laws

/-- Settles O53: each instruction passes B on or forgets it, and the fetch does not look at it. -/
theorem breakFlagIsInert : Obligations.BreakFlagIsInert := by
  unfold Obligations.BreakFlagIsInert
  exact ⟨encodeStatus_put_b, fun _ => rfl,
    fun s => ⟨takeBreak s, rfl, by rw [takeBreak_flags]⟩, fun _ => rfl, step_agree_but_b⟩

/-- Settles O8: Encode by the bits and the sum of bits, Decode by its definition. -/
theorem packedStatusLayout : Obligations.PackedStatusLayout := by
  unfold Obligations.PackedStatusLayout
  refine ⟨fun f => ?_,
    fun p => ⟨rfl, rfl, rfl, rfl, rfl, rfl, rfl, decodeStatus_flip_bit5 p⟩⟩
  obtain ⟨h7, h6, h5, h4, h3, h2, h1, h0⟩ := encodeStatus_bits f
  exact ⟨h7, h6, h5, h4, h3, h2, h1, h0, encodeStatus_toNat f⟩

/-- Settles O1: the reset state field by field; no cell is listed in its memory. -/
theorem resetState : Obligations.ResetState := by
  unfold Obligations.ResetState
  exact fun cfg _ addr =>
    ⟨rfl, rfl, rfl, rfl, rfl, rfl, readByte_powerOn cfg addr, rfl, rfl, rfl⟩

end Sys2Proof.Proofs
end

section
/-! The memory family (spec/20_memory.md): what a list of byte writes leaves in each cell, and what
Push and Pop do to SP and the stack page. -/

namespace Sys2Proof.Laws

open Sys2Proof.Machine

/-! ## A list of byte writes (R42, R43) -/

/-- From any state, a list of writes leaves in each cell the last byte written to it, or what the
cell held before. -/
theorem readByte_foldl_writeByte (s : State) (writes : List (Addr × Byte)) (addr : Addr) :
    readByte (writes.foldl (fun s w => writeByte s w.1 w.2) s) addr =
      ((writes.reverse.find? fun w => w.1 == addr).map Prod.snd).getD (readByte s addr) := by
  induction writes using List.reverseRecOn with
  | nil => rfl
  | append_singleton earlier last ih =>
    rw [List.foldl_concat, readByte_writeByte, List.reverse_concat]
    by_cases h : last.1 = addr
    · rw [if_pos h.symm, List.find?_cons_of_pos (by simpa using h)]
      rfl
    · rw [if_neg (Ne.symm h), List.find?_cons_of_neg (by simpa using h), ih]

/-! ## SP and the stack page (R50, R51) -/

/-- The cell a stack index names, as the spec writes it. -/
theorem stackAddr_eq_ofNat (sp : Byte) : stackAddr sp = BitVec.ofNat 16 (0x0100 + sp.toNat) := by
  apply BitVec.eq_of_toNat_eq
  have := sp.isLt
  rw [stackAddr_toNat, BitVec.toNat_ofNat]
  omega

theorem sub_one_toNat (sp : Byte) : (sp - 1#8).toNat = (sp.toNat + 255) % 256 := by
  simp [BitVec.toNat_sub, Nat.add_comm]

theorem add_one_toNat (sp : Byte) : (sp + 1#8).toNat = (sp.toNat + 1) % 256 := by
  simp [BitVec.toNat_add]

/-! ## A return address on the stack (R52) -/

@[simp] theorem pushWord_sp (w : Addr) (s : State) :
    (pushWord w s).sp = s.sp - 1#8 - 1#8 := rfl

/-- The low byte lies at the lower stack index. -/
@[simp] theorem readByte_pushWord_low (w : Addr) (s : State) :
    readByte (pushWord w s) (stackAddr (s.sp - 1#8)) = loByte w := by
  rw [pushWord, readByte_push, push_sp, if_pos rfl]

/-- The push of the low byte leaves the high byte where it was pushed. -/
@[simp] theorem readByte_pushWord_high (w : Addr) (s : State) :
    readByte (pushWord w s) (stackAddr s.sp) = hiByte w := by
  have distinct : stackAddr s.sp ≠ stackAddr (s.sp - 1#8) := by simp
  rw [pushWord, readByte_push, push_sp, if_neg distinct, readByte_push, if_pos rfl]

/-- Two increments of SP undo the two decrements, so Pop meets the low byte, then the high one. -/
theorem popWord_pushWord (w : Addr) (s : State) :
    popWord (pushWord w s) = (w, (pushWord w s).setSp s.sp) := by
  apply Prod.ext
  · rw [popWord_fst, pushWord_sp, BitVec.sub_add_cancel, BitVec.sub_add_cancel,
      readByte_pushWord_low, readByte_pushWord_high, joinBytes_hi_lo]
  · rw [popWord_snd, pushWord_sp, BitVec.sub_add_cancel, BitVec.sub_add_cancel]

end Sys2Proof.Laws

namespace Sys2Proof.Proofs

open Sys2Proof.Machine Sys2Proof.Laws

/-- Settles O4: by induction on the writes from the last one back; a reset state reads 0x00. -/
theorem memoryReadsLastWrite : Obligations.MemoryReadsLastWrite := by
  unfold Obligations.MemoryReadsLastWrite
  refine ⟨fun cfg writes addr => ?_, fun s addr other v => ⟨?_, fun hne => ?_, rfl⟩⟩
  · rw [readByte_foldl_writeByte, readByte_powerOn]
  · rw [readByte_writeByte, if_pos rfl]
  · rw [readByte_writeByte, if_neg hne]

/-- Settles O6: the laws of Push and Pop, with the stack index and its cell as numbers. -/
theorem pushAndPop : Obligations.PushAndPop := by
  unfold Obligations.PushAndPop
  intro s b w addr
  have word : (popWord (pushWord w s)).1 = w ∧ (popWord (pushWord w s)).2.sp = s.sp := by
    rw [popWord_pushWord]
    exact ⟨rfl, rfl⟩
  refine ⟨?_, fun hne => ?_, sub_one_toNat s.sp, rfl, ?_, add_one_toNat s.sp, rfl, rfl, rfl,
    word⟩
  · rw [← stackAddr_eq_ofNat, readByte_push, if_pos rfl]
  · rw [readByte_push, stackAddr_eq_ofNat, if_neg hne]
  · rw [pop_fst, stackAddr_eq_ofNat, add_one_toNat]

end Sys2Proof.Proofs
end

section
/-! The addressing family (spec/40_addressing.md): effective addresses as numbers. -/

namespace Sys2Proof.Laws

open Sys2Proof.Machine

/-- The carry out of bit 7 of an indexed zero-page address is dropped before the byte is widened,
so the address stays within page 0 (R86). -/
theorem zext16_add_toNat (b index : Byte) :
    (zext16 (b + index)).toNat = (b.toNat + index.toNat) % 256 := by
  rw [zext16_toNat, BitVec.toNat_add]

end Sys2Proof.Laws

namespace Sys2Proof.Proofs

open Sys2Proof.Machine Sys2Proof.Laws

/-- Settles O10: a widened byte keeps its value, and the index is added before the widening. -/
theorem zeroPageAndAbsoluteAddresses : Obligations.ZeroPageAndAbsoluteAddresses := by
  unfold Obligations.ZeroPageAndAbsoluteAddresses
  exact fun s b _ => ⟨zext16_toNat b, zext16_add_toNat b s.x, zext16_add_toNat b s.y, rfl⟩

end Sys2Proof.Proofs
end

section
/-! The arithmetic family (spec/41_alu_primitives.md): what each primitive answers as a number, and
the flags it writes. -/

namespace Sys2Proof.Laws

open Sys2Proof.Machine

/-! ## SetZN (R100) -/

/-- Z and N describe the byte, and no other flag changes: what every primitive that ends in SetZN
says of its result. -/
theorem setZN_spec (r : Byte) (f : Flags) :
    ((setZN r f).z = true ↔ r.toNat = 0) ∧ ((setZN r f).n = true ↔ 128 ≤ r.toNat) ∧
    setZN r f = { f with z := (setZN r f).z, n := (setZN r f).n } :=
  ⟨setZN_z_iff r f, setZN_n_iff r f, rfl⟩

/-! ## Binary addition (R102) -/

theorem u8_toNat (n : Nat) : (u8 n).toNat = n % 256 := BitVec.toNat_ofNat n 8

/-- A flag set from the exclusive or of two carries is 1 exactly when they differ. -/
theorem flagOf_xor_iff (p q : Nat) : flagOf (p ^^^ q) = true ↔ p ≠ q := by
  rw [flagOf, bne_iff_ne, ne_eq, Nat.xor_eq_zero_iff]

section
variable (a v : Byte) (f : Flags)

theorem adcBin_toNat : (adcBin a v f).1.toNat = (a.toNat + v.toNat + bitOf f.c) % 256 :=
  u8_toNat _

theorem adcBin_c_iff :
    (adcBin a v f).2.c = true ↔ 255 < a.toNat + v.toNat + bitOf f.c := decide_eq_true_iff

theorem adcBin_z_iff : (adcBin a v f).2.z = true ↔ (adcBin a v f).1.toNat = 0 := setZN_z_iff _ _

theorem adcBin_n_iff : (adcBin a v f).2.n = true ↔ 128 ≤ (adcBin a v f).1.toNat := setZN_n_iff _ _

/-- V compares the carry into bit 7 with the carry out of it. Each is 0 or 1, so they are equal as
numbers exactly when they occur together. -/
theorem adcBin_v_iff : (adcBin a v f).2.v = true ↔
    ¬(128 ≤ a.toNat % 128 + v.toNat % 128 + bitOf f.c ↔
      256 ≤ a.toNat + v.toNat + bitOf f.c) := by
  have carries : (adcBin a v f).2.v = true ↔
      (a.toNat % 128 + v.toNat % 128 + bitOf f.c) / 128 ≠
        (a.toNat + v.toNat + bitOf f.c) / 256 := by
    rw [← low7_toNat, ← low7_toNat, ← flagOf_xor_iff]
    simp [adcBin, Nat.shiftRight_eq_div_pow]
  have := bitOf_le_one f.c
  have := a.isLt
  have := v.isLt
  rw [carries]
  omega

/-- Read in two's complement, V says that the sum does not fit in a byte. -/
theorem adcBin_v_iff_signed : (adcBin a v f).2.v = true ↔
    (127 < a.toInt + v.toInt + (bitOf f.c : Int) ∨
      a.toInt + v.toInt + (bitOf f.c : Int) < -128) := by
  have := bitOf_le_one f.c
  have := a.isLt
  have := v.isLt
  rw [adcBin_v_iff, BitVec.toInt_eq_toNat_cond, BitVec.toInt_eq_toNat_cond]
  split <;> split <;> omega

end

/-! ## Binary subtraction (R105) -/

theorem sbc_binary (a v : Byte) {f : Flags} (h : f.d = false) :
    sbc a v f = adcBin a (v ^^^ 0xFF#8) f := by simp [sbc, h]

theorem complement_toInt (v : Byte) : (v ^^^ 0xFF#8).toInt = -1 - v.toInt := by
  rw [BitVec.toInt_eq_toNat_cond, BitVec.toInt_eq_toNat_cond, complement_toNat]
  have := v.isLt
  split <;> split <;> omega

/-! ## Shifts and rotates (R108 to R111) -/

theorem or_toNat_of_disjoint {x y : Byte} (h : x &&& y = 0#8) :
    (x ||| y).toNat = x.toNat + y.toNat := by
  rw [← BitVec.add_eq_or_of_and_eq_zero x y h, BitVec.toNat_add_of_and_eq_zero h]

theorem asl_toNat (v : Byte) (f : Flags) : (asl v f).1.toNat = 2 * v.toNat % 256 := by
  simp [asl, Nat.shiftLeft_eq, Nat.mul_comm]

theorem lsr_toNat (v : Byte) (f : Flags) : (lsr v f).1.toNat = v.toNat / 2 := by
  simp [lsr, Nat.shiftRight_eq_div_pow]

/-- The shift leaves bit 0 clear for the carry to come in. -/
theorem rol_toNat (v : Byte) (f : Flags) :
    (rol v f).1.toNat = 2 * v.toNat % 256 + bitOf f.c := by
  have disjoint : v <<< 1 &&& u8 (bitOf f.c) = 0#8 := by
    cases f.c <;> revert v <;> decide
  have carry : (u8 (bitOf f.c)).toNat = bitOf f.c := by cases f.c <;> rfl
  rw [← asl_toNat v f, ← carry]
  exact or_toNat_of_disjoint disjoint

/-- The shift leaves bit 7 clear for the carry to come in. -/
theorem ror_toNat (v : Byte) (f : Flags) :
    (ror v f).1.toNat = v.toNat / 2 + 128 * bitOf f.c := by
  have disjoint : v >>> 1 &&& u8 (bitOf f.c <<< 7) = 0#8 := by
    cases f.c <;> revert v <;> decide
  have carry : (u8 (bitOf f.c <<< 7)).toNat = 128 * bitOf f.c := by cases f.c <;> rfl
  rw [← lsr_toNat v f, ← carry]
  exact or_toNat_of_disjoint disjoint

/-- A shift or rotate writes C and ends in SetZN of its result. -/
theorem shift_form {op : Byte → Flags → Byte × Flags} (h : op ∈ [asl, lsr, rol, ror]) (v : Byte)
    (f : Flags) : ∃ r c', op v f = (r, setZN r { f with c := c' }) := by
  simp only [List.mem_cons, List.not_mem_nil, or_false] at h
  obtain rfl | rfl | rfl | rfl := h <;> exact ⟨_, _, rfl⟩

/-! ## Increment, decrement and logic (R112, R113, R116) -/

/-- Inc and Dec do nothing to the flags but SetZN of the result. -/
theorem incDec_form {op : Byte → Flags → Byte × Flags} (h : op ∈ [inc, dec]) (v : Byte)
    (f : Flags) : (op v f).2 = setZN (op v f).1 f := by
  simp only [List.mem_cons, List.not_mem_nil, or_false] at h
  obtain rfl | rfl := h <;> rfl

/-- And, Ora and Eor do nothing to the flags but SetZN of the result. -/
theorem logic_form {op : Byte → Byte → Flags → Byte × Flags} (h : op ∈ [andA, oraA, eorA])
    (a v : Byte) (f : Flags) : (op a v f).2 = setZN (op a v f).1 f := by
  simp only [List.mem_cons, List.not_mem_nil, or_false] at h
  obtain rfl | rfl | rfl := h <;> rfl

/-! ## Compare and bit test (R107, R114) -/

theorem compareReg_z_iff (reg v : Byte) (f : Flags) :
    (compareReg reg v f).z = true ↔ reg = v := beq_iff_eq.trans sub_eq_zero

theorem compareReg_n_iff (reg v : Byte) (f : Flags) :
    (compareReg reg v f).n = true ↔ 128 ≤ (reg.toNat + 256 - v.toNat) % 256 := by
  have difference : (reg - v).toNat = (reg.toNat + 256 - v.toNat) % 256 := by
    have := v.isLt
    rw [BitVec.toNat_sub]
    omega
  rw [← difference]
  exact setZN_n_iff _ _

theorem bit6_iff (v : Byte) : v.getLsbD 6 = true ↔ 64 ≤ v.toNat % 128 := by revert v; decide

/-- The AND is zero exactly when the bytes have no common bit. -/
theorem bitTest_z_iff (a v : Byte) (f : Flags) :
    (bitTest a v f).z = true ↔ ∀ k, k < 8 → (a.getLsbD k && v.getLsbD k) = false := by
  have zero : (bitTest a v f).z = true ↔ a &&& v = 0#8 := beq_iff_eq
  rw [zero]
  constructor
  · intro h k _
    rw [← BitVec.getLsbD_and, h, BitVec.getLsbD_zero]
  · intro h
    apply BitVec.eq_of_getLsbD_eq
    intro k hk
    rw [BitVec.getLsbD_and, h k hk, BitVec.getLsbD_zero]

end Sys2Proof.Laws

namespace Sys2Proof.Proofs

open Sys2Proof.Machine Sys2Proof.Laws

/-- Settles O13: SetZN tests the byte against zero and copies its bit 7. -/
theorem setZeroNegative : Obligations.SetZeroNegative := by
  unfold Obligations.SetZeroNegative
  exact setZN_spec

/-- Settles O14: the sum and its two carries as numbers. -/
theorem binaryAdd : Obligations.BinaryAdd := by
  unfold Obligations.BinaryAdd
  intro a v f
  rw [← adcBin_toNat]
  exact ⟨rfl, rfl, adcBin_c_iff a v f, adcBin_v_iff a v f, adcBin_z_iff a v f, adcBin_n_iff a v f,
    rfl, rfl, rfl⟩

/-- Settles O16: subtracting v is adding its complement, 255 - v unsigned and -1 - v signed. -/
theorem binarySubtract : Obligations.BinarySubtract := by
  unfold Obligations.BinarySubtract
  refine fun a v f => ⟨rfl, fun hd => ?_⟩
  have := bitOf_le_one f.c
  have := v.isLt
  rw [sbc_binary a v hd]
  refine ⟨?_, ?_, ?_, adcBin_z_iff _ _ f, adcBin_n_iff _ _ f, rfl, rfl, rfl⟩
  · rw [adcBin_toNat, complement_toNat]
    omega
  · rw [adcBin_c_iff, complement_toNat]
    omega
  · rw [adcBin_v_iff_signed, complement_toInt]
    omega

/-- Settles O19: the order of the bytes, their equality, and bit 7 of their difference. -/
theorem compareFlags : Obligations.CompareFlags := by
  unfold Obligations.CompareFlags
  exact fun reg v f =>
    ⟨decide_eq_true_iff, compareReg_z_iff reg v f, compareReg_n_iff reg v f, rfl, rfl, rfl, rfl⟩

/-- Settles O20: the results as numbers, the bit shifted out, and the SetZN each ends in. -/
theorem shiftsAndRotates : Obligations.ShiftsAndRotates := by
  unfold Obligations.ShiftsAndRotates
  refine fun v f => ⟨asl_toNat v f, lsr_toNat v f, rol_toNat v f, ror_toNat v f, bit7_iff v,
    bit7_iff v, bit0_iff v, bit0_iff v, fun op hop => ?_⟩
  obtain ⟨r, c', h⟩ := shift_form hop v f
  rw [h]
  exact ⟨setZN_z_iff r _, setZN_n_iff r _, rfl, rfl, rfl, rfl⟩

/-- Settles O21: the results as numbers, and the SetZN both end in. -/
theorem incrementAndDecrement : Obligations.IncrementAndDecrement := by
  unfold Obligations.IncrementAndDecrement
  refine fun v f => ⟨add_one_toNat v, sub_one_toNat v, fun op hop => ?_⟩
  rw [incDec_form hop]
  exact setZN_spec (op v f).1 f

/-- Settles O22: the bits of the three results, the SetZN each ends in, and the three flags of
Bit. -/
theorem logicAndBitTest : Obligations.LogicAndBitTest := by
  unfold Obligations.LogicAndBitTest
  refine fun a v f => ⟨fun k _ => ⟨BitVec.getLsbD_and, BitVec.getLsbD_or, BitVec.getLsbD_xor⟩,
    fun op hop => ?_, bitTest_z_iff a v f, bit6_iff v, bit7_iff v, rfl⟩
  rw [logic_form hop]
  exact setZN_spec (op a v f).1 f

end Sys2Proof.Proofs
end

section
/-! The load, store and transfer family (spec/42_load_store_transfer.md): the exact state each load
and store leaves, of which every mode of a mnemonic and every transfer is a case. -/

namespace Sys2Proof.Laws

open Sys2Proof.Machine

/-- An effect follows from the encoding and from the meaning by mnemonic and mode, since `exec`
always completes in that meaning. -/
theorem effect_of_meaningOf {s t : State} {bytes : List Byte} {i : Instr}
    (encoded : encode i = bytes) (meaning : meaningOf i.mnemonic i.mode s = t) :
    Effect s bytes i t :=
  ⟨encoded, by rw [exec_eq, meaning]⟩

/-! ## The whole state after a load or a store (R120 to R125) -/

theorem lda_eq (v : Byte) (s : State) :
    lda v s = { s with a := v, flags := setZN v s.flags } := rfl

theorem ldx_eq (v : Byte) (s : State) :
    ldx v s = { s with x := v, flags := setZN v s.flags } := rfl

theorem ldy_eq (v : Byte) (s : State) :
    ldy v s = { s with y := v, flags := setZN v s.flags } := rfl

theorem store_eq (m : MemMode) (v : Byte) (s : State) :
    store m v s = writeByte s (ea m s) v := rfl

end Sys2Proof.Laws

namespace Sys2Proof.Proofs

open Sys2Proof.Machine Sys2Proof.Laws

/-- Settles O23: each row is the load of its mnemonic, of the source byte its mode names. -/
theorem loadsSetRegisterZeroNegative : Obligations.LoadsSetRegisterZeroNegative := by
  unfold Obligations.LoadsSetRegisterZeroNegative
  intro s b w
  refine ⟨?ldaImm, ?ldaZp, ?ldaZpX, ?ldaAbs, ?ldaAbsX, ?ldaAbsY, ?ldaIndX, ?ldaIndY,
    ?ldxImm, ?ldxZp, ?ldxZpY, ?ldxAbs, ?ldxAbsY, ?ldyImm, ?ldyZp, ?ldyZpX, ?ldyAbs, ?ldyAbsX⟩
  case ldaImm | ldaZp | ldaZpX | ldaAbs | ldaAbsX | ldaAbsY | ldaIndX | ldaIndY =>
    exact effect_of_meaningOf rfl (lda_eq _ s)
  case ldxImm | ldxZp | ldxZpY | ldxAbs | ldxAbsY =>
    exact effect_of_meaningOf rfl (ldx_eq _ s)
  case ldyImm | ldyZp | ldyZpX | ldyAbs | ldyAbsX =>
    exact effect_of_meaningOf rfl (ldy_eq _ s)

/-- Settles O24: each row is the store of its mnemonic's register at the address of its mode. -/
theorem storesWriteOneCell : Obligations.StoresWriteOneCell := by
  unfold Obligations.StoresWriteOneCell
  intro s b w
  refine ⟨?staZp, ?staZpX, ?staAbs, ?staAbsX, ?staAbsY, ?staIndX, ?staIndY,
    ?stxZp, ?stxZpY, ?stxAbs, ?styZp, ?styZpX, ?styAbs⟩
  case staZp | staZpX | staAbs | staAbsX | staAbsY | staIndX | staIndY =>
    exact effect_of_meaningOf rfl (store_eq _ s.a s)
  case stxZp | stxZpY | stxAbs => exact effect_of_meaningOf rfl (store_eq _ s.x s)
  case styZp | styZpX | styAbs => exact effect_of_meaningOf rfl (store_eq _ s.y s)

/-- Settles O25: a transfer is the load of its target with the source register; TXS, which writes
no flag, is the write of SP alone. -/
theorem transfersCopyRegister : Obligations.TransfersCopyRegister := by
  unfold Obligations.TransfersCopyRegister
  exact fun s => ⟨
    effect_of_meaningOf rfl (ldx_eq s.a s), effect_of_meaningOf rfl (ldy_eq s.a s),
    effect_of_meaningOf rfl (lda_eq s.x s), effect_of_meaningOf rfl (lda_eq s.y s),
    effect_of_meaningOf rfl (ldx_eq s.sp s), effect_of_meaningOf rfl rfl⟩

end Sys2Proof.Proofs
end

section
/-! The arithmetic and logic family (spec/43_arith_logic.md): the exact state each pattern of these
instructions leaves, of which every mode of every mnemonic is a case. -/

namespace Sys2Proof.Laws

open Sys2Proof.Machine

/-! ## The whole state after a pattern (R140 to R150) -/

theorem accOp_eq (f : Binary) (v : Byte) (s : State) :
    accOp f v s = { s with a := (f s.a v s.flags).1, flags := (f s.a v s.flags).2 } := rfl

theorem cmpReg_eq (reg v : Byte) (s : State) :
    cmpReg reg v s = { s with flags := compareReg reg v s.flags } := rfl

theorem bitMem_eq (v : Byte) (s : State) :
    bitMem v s = { s with flags := bitTest s.a v s.flags } := rfl

theorem rmwMem_eq (f : Unary) (m : MemMode) (s : State) :
    rmwMem f m s = { writeByte s (ea m s) (f (memOperand m s) s.flags).1 with
      flags := (f (memOperand m s) s.flags).2 } := rfl

/-! ## The whole state after an index register's update (R151 to R154) -/

theorem setX_setFlags_eq (v : Byte) (f : Flags) (s : State) :
    (s.setX v).setFlags f = { s with x := v, flags := f } := rfl

theorem setY_setFlags_eq (v : Byte) (f : Flags) (s : State) :
    (s.setY v).setFlags f = { s with y := v, flags := f } := rfl

end Sys2Proof.Laws

namespace Sys2Proof.Proofs

open Sys2Proof.Machine Sys2Proof.Laws

/-- Settles O26: each row is the accumulator operation of its mnemonic's primitive on the source
byte its mode names. -/
theorem addAndSubtractWithCarry : Obligations.AddAndSubtractWithCarry := by
  unfold Obligations.AddAndSubtractWithCarry
  intro s b w
  refine ⟨?adcImm, ?adcZp, ?adcZpX, ?adcAbs, ?adcAbsX, ?adcAbsY, ?adcIndX, ?adcIndY,
    ?sbcImm, ?sbcZp, ?sbcZpX, ?sbcAbs, ?sbcAbsX, ?sbcAbsY, ?sbcIndX, ?sbcIndY⟩
  case adcImm | adcZp | adcZpX | adcAbs | adcAbsX | adcAbsY | adcIndX | adcIndY =>
    exact effect_of_meaningOf rfl (accOp_eq adc _ s)
  case sbcImm | sbcZp | sbcZpX | sbcAbs | sbcAbsX | sbcAbsY | sbcIndX | sbcIndY =>
    exact effect_of_meaningOf rfl (accOp_eq sbc _ s)

/-- Settles O27: each row is the accumulator operation of And, Ora or Eor on the source byte its
mode names, and those three primitives are the bitwise operation followed by SetZN. -/
theorem logicOnAccumulator : Obligations.LogicOnAccumulator := by
  unfold Obligations.LogicOnAccumulator
  intro s b w
  refine ⟨?andImm, ?andZp, ?andZpX, ?andAbs, ?andAbsX, ?andAbsY, ?andIndX, ?andIndY,
    ?oraImm, ?oraZp, ?oraZpX, ?oraAbs, ?oraAbsX, ?oraAbsY, ?oraIndX, ?oraIndY,
    ?eorImm, ?eorZp, ?eorZpX, ?eorAbs, ?eorAbsX, ?eorAbsY, ?eorIndX, ?eorIndY⟩
  case andImm | andZp | andZpX | andAbs | andAbsX | andAbsY | andIndX | andIndY =>
    exact effect_of_meaningOf rfl (accOp_eq andA _ s)
  case oraImm | oraZp | oraZpX | oraAbs | oraAbsX | oraAbsY | oraIndX | oraIndY =>
    exact effect_of_meaningOf rfl (accOp_eq oraA _ s)
  case eorImm | eorZp | eorZpX | eorAbs | eorAbsX | eorAbsY | eorIndX | eorIndY =>
    exact effect_of_meaningOf rfl (accOp_eq eorA _ s)

/-- Settles O28: each row is the compare of its mnemonic's register, or the bit test of A, with the
source byte its mode names. -/
theorem comparesAndBitTestSetFlags : Obligations.ComparesAndBitTestSetFlags := by
  unfold Obligations.ComparesAndBitTestSetFlags
  intro s b w
  refine ⟨?cmpImm, ?cmpZp, ?cmpZpX, ?cmpAbs, ?cmpAbsX, ?cmpAbsY, ?cmpIndX, ?cmpIndY,
    ?cpxImm, ?cpxZp, ?cpxAbs, ?cpyImm, ?cpyZp, ?cpyAbs, ?bitZp, ?bitAbs⟩
  case cmpImm | cmpZp | cmpZpX | cmpAbs | cmpAbsX | cmpAbsY | cmpIndX | cmpIndY =>
    exact effect_of_meaningOf rfl (cmpReg_eq s.a _ s)
  case cpxImm | cpxZp | cpxAbs => exact effect_of_meaningOf rfl (cmpReg_eq s.x _ s)
  case cpyImm | cpyZp | cpyAbs => exact effect_of_meaningOf rfl (cmpReg_eq s.y _ s)
  case bitZp | bitAbs => exact effect_of_meaningOf rfl (bitMem_eq _ s)

/-- Settles O29: a memory row is the read-modify-write of its mode's cell by Inc or Dec, a register
row the write of X or Y and the flags. -/
theorem incrementsAndDecrements : Obligations.IncrementsAndDecrements := by
  unfold Obligations.IncrementsAndDecrements
  intro s b w
  refine ⟨?incZp, ?incZpX, ?incAbs, ?incAbsX, ?decZp, ?decZpX, ?decAbs, ?decAbsX,
    ?inx, ?iny, ?dex, ?dey⟩
  case incZp | incZpX | incAbs | incAbsX => exact effect_of_meaningOf rfl (rmwMem_eq inc _ s)
  case decZp | decZpX | decAbs | decAbsX => exact effect_of_meaningOf rfl (rmwMem_eq dec _ s)
  case inx | dex => exact effect_of_meaningOf rfl (setX_setFlags_eq _ _ s)
  case iny | dey => exact effect_of_meaningOf rfl (setY_setFlags_eq _ _ s)

end Sys2Proof.Proofs
end

section
/-! The shift and rotate family (spec/44_shift_rotate.md): the exact state the accumulator form
leaves; the memory form is the read-modify-write of `rmwMem_eq`. -/

namespace Sys2Proof.Laws

open Sys2Proof.Machine

/-- The accumulator form of R160 to R163 writes A and the flags, and nothing else. -/
theorem rmwAcc_eq (f : Unary) (s : State) :
    rmwAcc f s = { s with a := (f s.a s.flags).1, flags := (f s.a s.flags).2 } := rfl

end Sys2Proof.Laws

namespace Sys2Proof.Proofs

open Sys2Proof.Machine Sys2Proof.Laws

/-- Settles O30: an accumulator row is the read-modify-write of A by the primitive of its mnemonic,
a memory row that of its mode's cell. -/
theorem shiftsOnAccumulatorOrMemory : Obligations.ShiftsOnAccumulatorOrMemory := by
  unfold Obligations.ShiftsOnAccumulatorOrMemory
  intro s b w
  refine ⟨?aslAcc, ?aslZp, ?aslZpX, ?aslAbs, ?aslAbsX, ?lsrAcc, ?lsrZp, ?lsrZpX, ?lsrAbs, ?lsrAbsX,
    ?rolAcc, ?rolZp, ?rolZpX, ?rolAbs, ?rolAbsX, ?rorAcc, ?rorZp, ?rorZpX, ?rorAbs, ?rorAbsX⟩
  case aslAcc | lsrAcc | rolAcc | rorAcc => exact effect_of_meaningOf rfl (rmwAcc_eq _ s)
  case aslZp | aslZpX | aslAbs | aslAbsX => exact effect_of_meaningOf rfl (rmwMem_eq asl _ s)
  case lsrZp | lsrZpX | lsrAbs | lsrAbsX => exact effect_of_meaningOf rfl (rmwMem_eq lsr _ s)
  case rolZp | rolZpX | rolAbs | rolAbsX => exact effect_of_meaningOf rfl (rmwMem_eq rol _ s)
  case rorZp | rorZpX | rorAbs | rorAbsX => exact effect_of_meaningOf rfl (rmwMem_eq ror _ s)

end Sys2Proof.Proofs
end

section
/-! The branch and jump family (spec/45_branch_jump.md): the exact state a conditional branch
leaves, by the value of the flag its condition reads, and the state a jump leaves. -/

namespace Sys2Proof.Laws

open Sys2Proof.Machine

/-! ## The whole state after a branch (R170 to R178) -/

/-- A branch on a set flag (BCS, BEQ, BMI, BVS): the next state by the flag being true. -/
theorem branchIf_eq (flag : Bool) (off : Byte) (s : State) :
    branchIf flag off s = if flag = true then { s with pc := branchTarget off s } else s := rfl

/-- A branch on a clear flag (BCC, BNE, BPL, BVC): the next state by the flag being false. -/
theorem branchIf_not_eq (flag : Bool) (off : Byte) (s : State) :
    branchIf (!flag) off s = if flag = false then { s with pc := branchTarget off s } else s := by
  cases flag with
  | false => rfl
  | true => rfl

/-! ## The whole state after a jump (R179) -/

theorem onJump_abs_eq (w : Addr) (s : State) :
    onJump (.mem (.abs w)) s = { s with pc := w } := rfl

/-- The pointer of JMP (indirect) is read as any word in memory is, across a page's end too
(decision D18). -/
theorem onJump_indirect_eq (w : Addr) (s : State) :
    onJump (.indirect w) s = { s with pc := readWord s w } := rfl

end Sys2Proof.Laws

namespace Sys2Proof.Proofs

open Sys2Proof.Machine Sys2Proof.Laws

/-- Settles O31: four branches are taken when their flag is set, four when it is clear. -/
theorem branchesOnOneFlag : Obligations.BranchesOnOneFlag := by
  unfold Obligations.BranchesOnOneFlag
  intro s b
  refine ⟨?bcc, ?bcs, ?beq, ?bne, ?bmi, ?bpl, ?bvc, ?bvs⟩
  case bcs | beq | bmi | bvs => exact effect_of_meaningOf rfl (branchIf_eq _ b s)
  case bcc | bne | bpl | bvc => exact effect_of_meaningOf rfl (branchIf_not_eq _ b s)

/-- Settles O32: each form is a jump in its mode, to the operand word or to the word read at it. -/
theorem jumpsSetPc : Obligations.JumpsSetPc := by
  unfold Obligations.JumpsSetPc
  intro s w
  exact ⟨effect_of_meaningOf rfl (onJump_abs_eq w s),
    effect_of_meaningOf rfl (onJump_indirect_eq w s)⟩

end Sys2Proof.Proofs
end

section
/-! The stack and flag family (spec/46_stack_flags_system.md): the exact state left by a write of
A and the flags, and by a write of the flags alone. -/

namespace Sys2Proof.Laws

open Sys2Proof.Machine

/-! ## The whole state after a pull or a flag write (R191, R193 to R200) -/

theorem setA_setFlags_eq (v : Byte) (f : Flags) (s : State) :
    (s.setA v).setFlags f = { s with a := v, flags := f } := rfl

theorem setFlags_eq (f : Flags) (s : State) : s.setFlags f = { s with flags := f } := rfl

end Sys2Proof.Laws

namespace Sys2Proof.Proofs

open Sys2Proof.Machine Sys2Proof.Laws

/-- Settles O34: PHA and PHP mean the push itself; PLA and PLP write the popped byte into the state
the pop leaves, into A with Z and N or into the seven flags. -/
theorem pushesAndPulls : Obligations.PushesAndPulls := by
  unfold Obligations.PushesAndPulls
  intro s
  refine ⟨?pha, ?pla, ?php, ?plp⟩
  case pha | php => exact effect_of_meaningOf rfl rfl
  case pla => exact effect_of_meaningOf rfl (setA_setFlags_eq _ _ (pop s).2)
  case plp => exact effect_of_meaningOf rfl (setFlags_eq _ (pop s).2)

/-- Settles O35: seven rows are a write of the flags that changes one of them; NOP means the
unchanged state. -/
theorem flagInstructionsWriteOneFlag : Obligations.FlagInstructionsWriteOneFlag := by
  unfold Obligations.FlagInstructionsWriteOneFlag
  intro s
  refine ⟨?clc, ?sec, ?cli, ?sei, ?cld, ?sed, ?clv, ?nop⟩
  case clc | sec | cli | sei | cld | sed | clv => exact effect_of_meaningOf rfl (setFlags_eq _ s)
  case nop => exact effect_of_meaningOf rfl rfl

end Sys2Proof.Proofs
end

section
/-! The illegal-opcode family (spec/47_illegal.md): the exact state LAX leaves, and the exact state
a combination of a memory primitive and a fold into A leaves; SAX is the store of `store_eq`. -/

namespace Sys2Proof.Laws

open Sys2Proof.Machine

/-! ## The whole state after a load into A and X (R210) -/

theorem lax_eq (v : Byte) (s : State) :
    lax v s = { s with a := v, x := v, flags := setZN v s.flags } := rfl

/-! ## The whole state after a combination (R212 to R217, R223) -/

/-- The fold takes the byte and the flags the memory primitive left: a combination is the fold of
that byte in the state after the read-modify-write. -/
theorem comboMem_eq (f : Unary) (fold : Binary) (m : MemMode) (s : State) :
    comboMem f fold m s = { writeByte s (ea m s) (f (memOperand m s) s.flags).1 with
      a := (fold s.a (f (memOperand m s) s.flags).1 (f (memOperand m s) s.flags).2).1
      flags := (fold s.a (f (memOperand m s) s.flags).1 (f (memOperand m s) s.flags).2).2 } :=
  accOp_eq fold _ (rmwMem f m s)

/-- A combination that ends in a compare writes the old A back: only the cell and the flags
change (R216). -/
theorem comboMem_compareFold_eq (f : Unary) (m : MemMode) (s : State) :
    comboMem f compareFold m s = { writeByte s (ea m s) (f (memOperand m s) s.flags).1 with
      flags := compareReg s.a (f (memOperand m s) s.flags).1 (f (memOperand m s) s.flags).2 } :=
  comboMem_eq f compareFold m s

end Sys2Proof.Laws

namespace Sys2Proof.Proofs

open Sys2Proof.Machine Sys2Proof.Laws

/-- Settles O37: a LAX row is the load into A and X of the byte its mode names in the state before
it, a SAX row the store of A AND X at the address of its mode. -/
theorem illegalLoadAndStore : Obligations.IllegalLoadAndStore := by
  unfold Obligations.IllegalLoadAndStore
  intro s b w
  refine ⟨?laxZp, ?laxZpY, ?laxAbs, ?laxAbsY, ?laxIndX, ?laxIndY,
    ?saxZp, ?saxZpY, ?saxAbs, ?saxIndX⟩
  case laxZp | laxZpY | laxAbs | laxAbsY | laxIndX | laxIndY =>
    exact effect_of_meaningOf rfl (lax_eq _ s)
  case saxZp | saxZpY | saxAbs | saxIndX =>
    exact effect_of_meaningOf rfl (store_eq _ (s.a &&& s.x) s)

/-- Settles O38: each row is the combination of its mnemonic's memory primitive and fold on the cell
of its mode; DCP's fold is the compare, which leaves A. -/
theorem illegalCombinations : Obligations.IllegalCombinations := by
  unfold Obligations.IllegalCombinations
  intro s b w
  refine ⟨?sloZp, ?sloZpX, ?sloAbs, ?sloAbsX, ?sloAbsY, ?sloIndX, ?sloIndY,
    ?rlaZp, ?rlaZpX, ?rlaAbs, ?rlaAbsX, ?rlaAbsY, ?rlaIndX, ?rlaIndY,
    ?sreZp, ?sreZpX, ?sreAbs, ?sreAbsX, ?sreAbsY, ?sreIndX, ?sreIndY,
    ?rraZp, ?rraZpX, ?rraAbs, ?rraAbsX, ?rraAbsY, ?rraIndX, ?rraIndY,
    ?dcpZp, ?dcpZpX, ?dcpAbs, ?dcpAbsX, ?dcpAbsY, ?dcpIndX, ?dcpIndY,
    ?iscZp, ?iscZpX, ?iscAbs, ?iscAbsX, ?iscAbsY, ?iscIndX, ?iscIndY⟩
  case sloZp | sloZpX | sloAbs | sloAbsX | sloAbsY | sloIndX | sloIndY =>
    exact effect_of_meaningOf rfl (comboMem_eq asl oraA _ s)
  case rlaZp | rlaZpX | rlaAbs | rlaAbsX | rlaAbsY | rlaIndX | rlaIndY =>
    exact effect_of_meaningOf rfl (comboMem_eq rol andA _ s)
  case sreZp | sreZpX | sreAbs | sreAbsX | sreAbsY | sreIndX | sreIndY =>
    exact effect_of_meaningOf rfl (comboMem_eq lsr eorA _ s)
  case rraZp | rraZpX | rraAbs | rraAbsX | rraAbsY | rraIndX | rraIndY =>
    exact effect_of_meaningOf rfl (comboMem_eq ror adc _ s)
  case dcpZp | dcpZpX | dcpAbs | dcpAbsX | dcpAbsY | dcpIndX | dcpIndY =>
    exact effect_of_meaningOf rfl (comboMem_compareFold_eq dec _ s)
  case iscZp | iscZpX | iscAbs | iscAbsX | iscAbsY | iscIndX | iscIndY =>
    exact effect_of_meaningOf rfl (comboMem_eq inc sbc _ s)

end Sys2Proof.Proofs
end

section
/-! The encoding family (spec/30_encoding.md): the lookup in the active table, what each row of the
opcode table makes of the bytes after it, and the two directions of decoding and encoding. -/

namespace Sys2Proof.Laws

open Sys2Proof.Machine

/-! ## The active table (R63, R64) -/

theorem wf_eq_active (allow : Bool) (i : Instr) : i.wf allow = i.table.active allow := by
  unfold Instr.wf Table.active
  cases i.table <;> rfl

/-- A lookup finds the row of the opcode byte if the row's table is active. -/
theorem lookup_eq_some_iff {allow : Bool} {op : Byte} {shape : Shape} :
    lookup allow op = some shape ↔
      ∃ table, tableRow op = some ⟨table, shape⟩ ∧ table.active allow = true := by
  cases hrow : tableRow op with
  | none => simp [lookup, hrow]
  | some row =>
    obtain ⟨table, shape'⟩ := row
    cases hactive : table.active allow <;> simp [lookup, hrow, hactive, and_comm]

theorem lookup_opcode {allow : Bool} {i : Instr} {shape : Shape}
    (row : tableRow i.opcode = some ⟨i.table, shape⟩) (wf : i.wf allow = true) :
    lookup allow i.opcode = some shape :=
  lookup_eq_some_iff.2 ⟨i.table, row, by rwa [← wf_eq_active]⟩

/-! ## Decoding an encoding (R60, R62) -/

theorem decode_encode {allow : Bool} {i : Instr} (wf : i.wf allow = true) (rest : List Byte) :
    decode allow (encode i ++ rest) = .instr i rest := by
  obtain ⟨shape, row, operands⟩ := tableRow_opcode i
  rw [encode, List.cons_append, decode, lookup_opcode row wf]
  exact operands rest

/-- R61: a format has as many operand bytes as it has bytes after the opcode. -/
theorem operandBytes_length (mode : Mode) : mode.operandBytes.length + 1 = mode.format.length := by
  cases mode with
  | mem m => cases m <;> rfl
  | _ => rfl

theorem encode_length (i : Instr) : (encode i).length = i.length :=
  operandBytes_length i.mode

/-! ## Encoding what was decoded: every row makes instructions with its own opcode byte -/

/-- What a row of the opcode table at the byte `op` makes stands in the row's table and has `op`
and the operand bytes as its encoding. -/
def RowSound (op : Byte) : Option OpcodeRow → Prop
  | none => True
  | some ⟨table, .f1 i⟩ => i.table = table ∧ encode i = [op]
  | some ⟨table, .f2 make⟩ => ∀ b, (make b).table = table ∧ encode (make b) = [op, b]
  | some ⟨table, .f3 make⟩ =>
    ∀ w, (make w).table = table ∧ encode (make w) = [op, loByte w, hiByte w]

/-- The rows of a line, for opcode bytes from a number upward. -/
def LineSound : Nat → List (Option OpcodeRow) → Prop
  | _, [] => True
  | op, row :: rows => RowSound (BitVec.ofNat 8 op) row ∧ LineSound (op + 1) rows

/-- The lines of the matrix, sixteen opcode bytes apart. -/
def LinesSound : Nat → List (List (Option OpcodeRow)) → Prop
  | _, [] => True
  | op, line :: lines => LineSound op line ∧ LinesSound (op + 16) lines

theorem rowAt_sound {op : Nat} {line : List (Option OpcodeRow)} (h : LineSound op line) (k : Nat) :
    RowSound (BitVec.ofNat 8 (op + k)) (rowAt line k) := by
  induction line generalizing op k with
  | nil => trivial
  | cons row rows ih =>
    cases k with
    | zero => exact h.1
    | succ k =>
      have next : op + (k + 1) = op + 1 + k := by omega
      rw [next]
      exact ih h.2 k

theorem lineAt_sound {op : Nat} {lines : List (List (Option OpcodeRow))} (h : LinesSound op lines)
    (k : Nat) : LineSound (op + 16 * k) (lineAt lines k) := by
  induction lines generalizing op k with
  | nil => trivial
  | cons line lines ih =>
    cases k with
    | zero => exact h.1
    | succ k =>
      have next : op + 16 * (k + 1) = op + 16 + 16 * k := by omega
      rw [next]
      exact ih h.2 k

/-- R65, R66: sixteen lines of sixteen rows. A byte without a row has nothing to show; a row without
and a row with an operand hold by computing the encoding of what they make. -/
theorem opcodeMatrix_sound : LinesSound 0 opcodeMatrix := by
  simp only [opcodeMatrix, List.cons_append, List.nil_append, LinesSound]
  refine ⟨?_, ?_, ?_, ?_, ?_, ?_, ?_, ?_, ?_, ?_, ?_, ?_, ?_, ?_, ?_, ?_, trivial⟩
  all_goals
    refine ⟨?_, ?_, ?_, ?_, ?_, ?_, ?_, ?_, ?_, ?_, ?_, ?_, ?_, ?_, ?_, ?_, trivial⟩
    all_goals
      first
      | exact trivial
      | exact ⟨rfl, rfl⟩
      | exact fun _ => ⟨rfl, rfl⟩

theorem tableRow_sound (op : Byte) : RowSound op (tableRow op) := by
  have h := rowAt_sound (lineAt_sound opcodeMatrix_sound (op.toNat / 16)) (op.toNat % 16)
  rwa [Nat.zero_add, Nat.div_add_mod, BitVec.ofNat_toNat, BitVec.setWidth_eq] at h

/-- What a row makes of the bytes after the opcode byte has those bytes as its operands. -/
theorem RowSound.of_decode {op : Byte} {table : Table} {shape : Shape}
    (sound : RowSound op (some ⟨table, shape⟩)) {tail rest : List Byte} {i : Instr}
    (h : shape.decode tail = .instr i rest) : i.table = table ∧ op :: tail = encode i ++ rest := by
  unfold Shape.decode at h
  split at h
  case h_1 i' bytes =>
    cases h
    exact ⟨sound.1, by rw [sound.2]; rfl⟩
  case h_2 make b tail' =>
    cases h
    exact ⟨(sound b).1, by rw [(sound b).2]; rfl⟩
  case h_3 make lo hi tail' =>
    cases h
    refine ⟨(sound _).1, ?_⟩
    rw [(sound _).2, loByte_joinBytes, hiByte_joinBytes]
    rfl
  case h_4 => cases h

/-- A decoded list begins with an opcode byte whose row in the active table makes the instruction
of the bytes after it. -/
theorem decode_eq_instr {allow : Bool} {bytes rest : List Byte} {i : Instr}
    (h : decode allow bytes = .instr i rest) :
    ∃ op tail shape, bytes = op :: tail ∧ lookup allow op = some shape ∧
      shape.decode tail = .instr i rest := by
  cases bytes with
  | nil => cases h
  | cons op tail =>
    cases hop : lookup allow op with
    | none => simp [decode, hop] at h
    | some shape =>
      simp only [decode, hop] at h
      exact ⟨op, tail, shape, rfl, hop, h⟩

theorem wf_and_encode_of_decode {allow : Bool} {bytes rest : List Byte} {i : Instr}
    (h : decode allow bytes = .instr i rest) : i.wf allow = true ∧ bytes = encode i ++ rest := by
  obtain ⟨op, tail, shape, rfl, hop, made⟩ := decode_eq_instr h
  obtain ⟨table, row, active⟩ := lookup_eq_some_iff.1 hop
  obtain ⟨standsIn, encoded⟩ := RowSound.of_decode (row ▸ tableRow_sound op) made
  exact ⟨by rw [wf_eq_active, standsIn, active], encoded⟩

/-! ## Which opcode bytes have a row (R65, R66, R67) -/

/-- The three lists of opcode bytes are a partition of the byte values. -/
theorem opcode_bytes_partition (op : Byte) :
    ([legalBytes, illegalBytes, unmappedBytes].filter fun l => l.contains op.toNat).length = 1 := by
  revert op; decide

theorem lookup_legal_isSome_iff (op : Byte) :
    (lookup false op).isSome = true ↔ op.toNat ∈ legalBytes := by
  revert op; decide

theorem lookup_all_isSome_iff (op : Byte) :
    (lookup true op).isSome = true ↔ op.toNat ∉ unmappedBytes := by
  revert op; decide

end Sys2Proof.Laws

namespace Sys2Proof.Proofs

open Sys2Proof.Machine Sys2Proof.Laws

/-- Settles O40: the row of the instruction's own opcode byte takes its operand bytes back. -/
theorem encodeThenDecode : Obligations.EncodeThenDecode := by
  unfold Obligations.EncodeThenDecode
  exact fun _ i rest wf => ⟨decode_encode wf rest, encode_length i⟩

/-- Settles O41: every row of the table makes instructions whose encoding begins with the row's own
byte. -/
theorem decodeThenEncode : Obligations.DecodeThenEncode := by
  unfold Obligations.DecodeThenEncode
  exact fun _ _ _ _ h => wf_and_encode_of_decode h

/-- Settles O42: each word is the encoding of its instruction, and two bytes have no active row. -/
theorem specWordsDecode : Obligations.SpecWordsDecode := by
  unfold Obligations.SpecWordsDecode
  exact ⟨decode_encode (i := .ldaImm 0x80#8) rfl [],
    decode_encode (i := .ldaAbs 0x1234#16) rfl [], decode_encode (i := .ldxZpY 0x10#8) rfl [],
    decode_encode (i := .staIndY 0x20#8) rfl [], decode_encode (i := .adcImm 0x01#8) rfl [],
    decode_encode (i := .rorAcc) rfl [], decode_encode (i := .bne 0xFB#8) rfl [],
    decode_encode (i := .jmpInd 0x1234#16) rfl [], decode_encode (i := .jsr 0x0700#16) rfl [],
    decode_encode (i := .brk) rfl [], decode_encode (i := .rti) rfl [],
    decode_encode (i := .sed) rfl [], decode_encode (i := .laxZp 0x10#8) rfl [], rfl, rfl, rfl⟩

/-- Settles O43: the lists and the lookup, byte by byte. -/
theorem activeTableBytes : Obligations.ActiveTableBytes := by
  unfold Obligations.ActiveTableBytes
  exact ⟨rfl, rfl, rfl, fun op =>
    ⟨opcode_bytes_partition op, lookup_legal_isSome_iff op, lookup_all_isSome_iff op⟩⟩

end Sys2Proof.Proofs
end

section
/-! The stack family (spec/20_memory.md R50 to R53): Push and Pop refine a list, and what is pushed
by PHP, JSR and BRK comes back by PLP, RTS and RTI. -/

namespace Sys2Proof.Laws

open Sys2Proof.Machine

/-! ## A list on the stack page (R53) -/

/-- The bytes of a list, its head the top, stand in the cells from SP + 1 upward, modulo 256. -/
def StackHolds (stack : List Byte) (s : State) : Prop :=
  ∀ k (h : k < stack.length), readByte s (stackAddr (s.sp + 1#8 + BitVec.ofNat 8 k)) = stack[k]

theorem stackHolds_nil (s : State) : StackHolds [] s := fun _ h => absurd h (Nat.not_lt_zero _)

/-- With fewer than 256 bytes outstanding, the cell a push writes is none of theirs. -/
theorem stackHolds_push {stack : List Byte} {s : State} (h : StackHolds stack s)
    (room : stack.length < 256) (b : Byte) : StackHolds (b :: stack) (push b s) := by
  intro k hk
  rw [push_sp, BitVec.sub_add_cancel, readByte_push]
  cases k with
  | zero => rw [BitVec.add_zero, if_pos rfl, List.getElem_cons_zero]
  | succ k =>
    have below : k < stack.length := Nat.lt_of_succ_lt_succ hk
    have index : s.sp + BitVec.ofNat 8 (k + 1) = s.sp + 1#8 + BitVec.ofNat 8 k := by
      rw [Nat.add_comm, BitVec.ofNat_add, BitVec.add_assoc]
    have other : s.sp + BitVec.ofNat 8 (k + 1) ≠ s.sp := by
      intro same
      have sameNat := congrArg BitVec.toNat same
      have := s.sp.isLt
      simp only [BitVec.toNat_add, BitVec.toNat_ofNat] at sameNat
      omega
    rw [if_neg (mt (stackAddr_inj _ _).1 other), index, h k below, List.getElem_cons_succ]

/-- A pop answers the head and leaves the tail. -/
theorem stackHolds_pop {stack : List Byte} {b : Byte} {s : State} (h : StackHolds (b :: stack) s) :
    (pop s).1 = b ∧ StackHolds stack (pop s).2 := by
  constructor
  · have top := h 0 (Nat.succ_pos _)
    rwa [BitVec.add_zero] at top
  · intro k hk
    have index : s.sp + 1#8 + 1#8 + BitVec.ofNat 8 k = s.sp + 1#8 + BitVec.ofNat 8 (k + 1) := by
      rw [Nat.add_comm k, BitVec.ofNat_add, BitVec.add_assoc (s.sp + 1#8)]
    rw [pop_snd, readByte_setSp, State.setSp_sp, index, h (k + 1) (Nat.succ_lt_succ hk),
      List.getElem_cons_succ]

/-- Whatever the list run answers, the machine answers from a state that holds the list. -/
theorem runStack_eq_of_runLifo {ops : List StackOp} {stack popped : List Byte} {s : State}
    (holds : StackHolds stack s) (run : runLifo ops stack = some popped) :
    (runStack ops s).1 = popped := by
  induction ops generalizing stack popped s with
  | nil => simpa [runLifo, runStack] using run
  | cons op ops ih =>
    cases op with
    | push b =>
      by_cases room : stack.length < 256
      · rw [runLifo, if_pos room] at run
        exact ih (stackHolds_push holds room b) run
      · rw [runLifo, if_neg room] at run
        cases run
    | pop =>
      cases stack with
      | nil => cases run
      | cons b stack =>
        obtain ⟨top, rest⟩ := stackHolds_pop holds
        obtain ⟨popped', run', rfl⟩ := Option.map_eq_some_iff.1 run
        rw [runStack, top, ih rest run']

/-! ## A pop after a push; a pop after PC or the flags were written -/

theorem pop_push (b : Byte) (s : State) : pop (push b s) = (b, (push b s).setSp s.sp) := by
  apply Prod.ext
  · rw [pop_fst, push_sp, BitVec.sub_add_cancel, readByte_push, if_pos rfl]
  · rw [pop_snd, push_sp, BitVec.sub_add_cancel]

theorem popWord_eq (s : State) : popWord s =
    (joinBytes (readByte s (stackAddr (s.sp + 2#8))) (readByte s (stackAddr (s.sp + 1#8))),
      s.setSp (s.sp + 2#8)) := by
  have two : s.sp + 1#8 + 1#8 = s.sp + 2#8 := BitVec.add_assoc _ _ _
  apply Prod.ext
  · rw [popWord_fst, two]
  · rw [popWord_snd, two]

theorem popWord_setPc (pc : Addr) (s : State) :
    popWord (s.setPc pc) = ((popWord s).1, (popWord s).2.setPc pc) := rfl

/-- RTS undoes the push of JSR, from whatever PC. -/
theorem meaningOf_rts_after_pushWord (w anywhere : Addr) (s : State) :
    meaningOf .rts .implied ((pushWord w s).setPc anywhere) =
      { s with pc := w + 1#16, mem := (pushWord w s).mem } := by
  rw [meaningOf, popWord_setPc, popWord_pushWord]
  simp only [State.setPc, State.setSp]
  rfl

/-- The bits of a packed status that are no flag come back 1 (R22, R25). -/
theorem encodeStatus_decodeStatus (p : Byte) : encodeStatus (decodeStatus p) = p ||| 0x30#8 := by
  revert p; decide

/-! ## Return after a call, after a trap (R180, R181, R202, R203) -/

theorem returnFromInterrupt_eq (s : State) : returnFromInterrupt s = { s with
    flags := decodeStatus (readByte s (stackAddr (s.sp + 1#8)))
    sp := s.sp + 3#8
    pc := joinBytes (readByte s (stackAddr (s.sp + 3#8)))
      (readByte s (stackAddr (s.sp + 2#8))) } := by
  have two : s.sp + 1#8 + 1#8 = s.sp + 2#8 := BitVec.add_assoc _ _ _
  have three : s.sp + 1#8 + 2#8 = s.sp + 3#8 := BitVec.add_assoc _ _ _
  rw [← two, ← three, returnFromInterrupt, popWord_eq]
  rfl

/-- The cells after BRK are those its three pushes leave. -/
theorem readByte_takeBreak (s : State) (j : Addr) : readByte (takeBreak s) j =
    if j = stackAddr (s.sp - 1#8 - 1#8) then encodeStatus s.flags
    else readByte (pushWord (s.pc + 1#16) s) j :=
  (readByte_congr (takeBreak_mem s) j).trans (readByte_push _ _ j)

@[simp] theorem readByte_takeBreak_status (s : State) :
    readByte (takeBreak s) (stackAddr (s.sp - 1#8 - 1#8)) = encodeStatus s.flags := by
  rw [readByte_takeBreak, if_pos rfl]

@[simp] theorem readByte_takeBreak_low (s : State) :
    readByte (takeBreak s) (stackAddr (s.sp - 1#8)) = loByte (s.pc + 1#16) := by
  have other : stackAddr (s.sp - 1#8) ≠ stackAddr (s.sp - 1#8 - 1#8) := by simp
  rw [readByte_takeBreak, if_neg other, readByte_pushWord_low]

@[simp] theorem readByte_takeBreak_high (s : State) :
    readByte (takeBreak s) (stackAddr s.sp) = hiByte (s.pc + 1#16) := by
  have other : stackAddr s.sp ≠ stackAddr (s.sp - 1#8 - 1#8) := by simp
  rw [readByte_takeBreak, if_neg other, readByte_pushWord_high]

/-- RTI undoes BRK but for B, from whatever PC the vector gave. -/
theorem returnFromInterrupt_takeBreak (s : State) (handler : Addr) :
    returnFromInterrupt ((takeBreak s).setPc handler) = { s with
      pc := s.pc + 1#16, flags := { s.flags with b := true }, mem := (takeBreak s).mem } := by
  have one : s.sp - 1#8 - 1#8 - 1#8 + 1#8 = s.sp - 1#8 - 1#8 := BitVec.sub_add_cancel _ _
  have two : s.sp - 1#8 - 1#8 - 1#8 + 2#8 = s.sp - 1#8 := by bv_omega
  have three : s.sp - 1#8 - 1#8 - 1#8 + 3#8 = s.sp := by bv_omega
  simp only [returnFromInterrupt_eq, readByte_setPc, State.setPc_sp, takeBreak_sp, one, two, three,
    readByte_takeBreak_status, readByte_takeBreak_low, readByte_takeBreak_high, joinBytes_hi_lo,
    decodeStatus_encodeStatus]
  simp only [State.setPc, takeBreak_a, takeBreak_x, takeBreak_y, takeBreak_config]

end Sys2Proof.Laws

namespace Sys2Proof.Proofs

open Sys2Proof.Machine Sys2Proof.Laws

/-- Settles O7: by induction on the operations, the outstanding bytes being the cells above SP. -/
theorem stackIsLifo : Obligations.StackIsLifo := by
  unfold Obligations.StackIsLifo
  exact fun _ _ s run => runStack_eq_of_runLifo (stackHolds_nil s) run

/-- Settles O9: Decode takes back what Encode packed, and the pull pops the byte the push wrote. -/
theorem statusRoundTrip : Obligations.StatusRoundTrip := by
  unfold Obligations.StatusRoundTrip
  refine ⟨decodeStatus_encodeStatus, encodeStatus_decodeStatus, fun s =>
    ⟨push (encodeStatus s.flags) s, rfl, ?_⟩⟩
  rw [exec_eq, Instr.mnemonic, meaningOf, pop_push, decodeStatus_encodeStatus]
  rfl

/-- Settles O54: the three bytes BRK pushes are the three RTI pops. -/
theorem breakThenReturnResumes : Obligations.BreakThenReturnResumes := by
  unfold Obligations.BreakThenReturnResumes
  intro s t handler trapped
  have trap : t = takeBreak s := eq_of_exec trapped
  rw [exec_eq, trap]
  exact congrArg _ (returnFromInterrupt_takeBreak s handler)

/-- Settles O55: the word RTS pops is the one JSR pushed, one below the address after the JSR. -/
theorem callThenReturnResumes : Obligations.CallThenReturnResumes := by
  unfold Obligations.CallThenReturnResumes
  intro s t target anywhere called
  have call : t = (pushWord (s.pc - 1#16) s).setPc target := eq_of_exec called
  have resumed := meaningOf_rts_after_pushWord (s.pc - 1#16) anywhere s
  rw [BitVec.sub_add_cancel] at resumed
  rw [exec_eq, call]
  exact ⟨rfl, congrArg _ resumed⟩

/-- Settles O33: JSR means the push of the word and the jump; RTS the pop of two bytes. -/
theorem callAndReturnUseStack : Obligations.CallAndReturnUseStack := by
  unfold Obligations.CallAndReturnUseStack
  refine fun s w => ⟨effect_of_meaningOf rfl rfl, effect_of_meaningOf rfl ?_⟩
  rw [Instr.mnemonic, meaningOf, popWord_eq]
  rfl

/-- Settles O36: BRK means its three pushes, the two flags and the vector; RTI the three pops. -/
theorem breakTrapsAndRtiReturns : Obligations.BreakTrapsAndRtiReturns := by
  unfold Obligations.BreakTrapsAndRtiReturns
  rintro s t rfl
  exact ⟨effect_of_meaningOf rfl rfl, effect_of_meaningOf rfl (returnFromInterrupt_eq s)⟩

end Sys2Proof.Proofs
end

section
/-! The access family (spec/20_memory.md R42, R48; spec/40_addressing.md R93): an instruction's
access list says which cells it depends on, what it stores, and how often it goes to memory. -/

namespace Sys2Proof.Laws

open Sys2Proof.Machine

/-! ## Lists of accesses -/

theorem readsCell_append (l l' : List Access) (addr : Addr) :
    readsCell (l ++ l') addr = (readsCell l addr || readsCell l' addr) := List.any_append

theorem writesCell_append (l l' : List Access) (addr : Addr) :
    writesCell (l ++ l') addr = (writesCell l addr || writesCell l' addr) := List.any_append

theorem replayWrites_append (l l' : List Access) (m : Memory) :
    replayWrites (l ++ l') m = replayWrites l' (replayWrites l m) := by
  induction l generalizing m with
  | nil => rfl
  | cons acc l ih => cases acc <;> exact ih _

theorem readCount_append (l l' : List Access) :
    readCount (l ++ l') = readCount l + readCount l' := by
  induction l with
  | nil => simp [readCount]
  | cons acc l ih => cases acc <;> simp [readCount, ih, Nat.add_right_comm]

theorem writeCount_append (l l' : List Access) :
    writeCount (l ++ l') = writeCount l + writeCount l' := by
  induction l with
  | nil => simp [writeCount]
  | cons acc l ih => cases acc <;> simp [writeCount, ih, Nat.add_right_comm]

/-- A cell no access writes reads as before. -/
theorem read_replayWrites {l : List Access} {addr : Addr} (h : writesCell l addr = false)
    (m : Memory) : (replayWrites l m).read addr.toNat = m.read addr.toNat := by
  induction l generalizing m with
  | nil => rfl
  | cons acc l ih =>
    cases acc with
    | read at_ => exact ih h m
    | write at_ v =>
      obtain ⟨elsewhere, h⟩ := Bool.or_eq_false_iff.1 h
      rw [replayWrites, ih h, Memory.read_write, if_neg]
      exact fun same => beq_eq_false_iff_ne.1 elsewhere (BitVec.eq_of_toNat_eq same.symm)

/-- The writes of an access list keep the canonical form. -/
theorem replayWrites_wf (l : List Access) {m : Memory} (h : m.wf = true) :
    (replayWrites l m).wf = true := by
  induction l generalizing m with
  | nil => exact h
  | cons acc l ih =>
    cases acc with
    | read at_ => exact ih h
    | write at_ v => exact ih (Memory.wf_write m _ v h at_.isLt)

/-! ## The accesses of a memory mode -/

@[simp] theorem replayWrites_pointerReads (m : MemMode) (s : State) (mem : Memory) :
    replayWrites (pointerReads m s) mem = mem := by
  cases m <;> rfl

@[simp] theorem replayWrites_readAccesses (mode : Mode) (s : State) (mem : Memory) :
    replayWrites (onMemMode readAccesses mode s) mem = mem := by
  cases mode with
  | mem m => simp [onMemMode, readAccesses, replayWrites_append, replayWrites]
  | _ => rfl

theorem replayWrites_writeAccesses (v : Byte) (m : MemMode) (s : State) (mem : Memory) :
    replayWrites (writeAccesses v m s) mem = mem.write (ea m s).toNat v := by
  simp [writeAccesses, replayWrites_append, replayWrites]

theorem replayWrites_rmwAccesses (f : Unary) (m : MemMode) (s : State) (mem : Memory) :
    replayWrites (rmwAccesses f m s) mem =
      mem.write (ea m s).toNat (f (memOperand m s) s.flags).1 := by
  simp [rmwAccesses, replayWrites_append, replayWrites]

/-! ## Another memory that agrees on the cells read -/

/-- A memory holds what the state's does in every cell an access list reads. -/
def Agrees (l : List Access) (s : State) (mem : Memory) : Prop :=
  ∀ addr : Addr, readsCell l addr = true → mem.read addr.toNat = readByte s addr

section
variable {s : State} {mem : Memory}

theorem Agrees.left {l l' : List Access} (h : Agrees (l ++ l') s mem) : Agrees l s mem :=
  fun addr reads => h addr (by rw [readsCell_append, reads, Bool.true_or])

theorem Agrees.right {l l' : List Access} (h : Agrees (l ++ l') s mem) : Agrees l' s mem :=
  fun addr reads => h addr (by rw [readsCell_append, reads, Bool.or_true])

theorem Agrees.tail {acc : Access} {l : List Access} (h : Agrees (acc :: l) s mem) :
    Agrees l s mem := Agrees.right (l := [acc]) h

/-- The cell a list reads first reads the same in the other memory. -/
theorem Agrees.head {addr : Addr} {l : List Access} (h : Agrees (.read addr :: l) s mem) :
    readByte (s.setMem mem) addr = readByte s addr :=
  h addr (by simp [readsCell])

theorem Agrees.word {addr : Addr} {l : List Access} (h : Agrees (wordReads addr ++ l) s mem) :
    readWord (s.setMem mem) addr = readWord s addr := by
  have first := Agrees.head h
  have second := Agrees.head (Agrees.tail h)
  rw [readWord, first, second, readWord]

theorem ea_setMem {m : MemMode} {l : List Access} (h : Agrees (pointerReads m s ++ l) s mem) :
    ea m (s.setMem mem) = ea m s := by
  cases m with
  | indX b => exact Agrees.word h
  | indY b => exact congrArg (· + zext16 s.y) (Agrees.word h)
  | _ => rfl

theorem memOperand_setMem {m : MemMode} {l : List Access}
    (h : Agrees (pointerReads m s ++ .read (ea m s) :: l) s mem) :
    memOperand m (s.setMem mem) = memOperand m s := by
  rw [memOperand, ea_setMem h, Agrees.head (Agrees.right h), memOperand]

theorem source_setMem {mode : Mode} (h : Agrees (onMemMode readAccesses mode s) s mem) :
    source mode (s.setMem mem) = source mode s := by
  cases mode with
  | mem m => exact memOperand_setMem h
  | _ => rfl

/-! ## Each pattern in the other memory -/

theorem store_setMem {m : MemMode} {v : Byte} (h : Agrees (writeAccesses v m s) s mem) :
    store m v (s.setMem mem) =
      (store m v s).setMem (replayWrites (writeAccesses v m s) mem) := by
  rw [store, ea_setMem h, replayWrites_writeAccesses]
  rfl

theorem rmwMem_setMem {f : Unary} {m : MemMode} (h : Agrees (rmwAccesses f m s) s mem) :
    rmwMem f m (s.setMem mem) =
      (rmwMem f m s).setMem (replayWrites (rmwAccesses f m s) mem) := by
  rw [rmwMem, memOperand_setMem h, ea_setMem h, replayWrites_rmwAccesses]
  rfl

theorem comboMem_setMem {f : Unary} {g : Binary} {m : MemMode}
    (h : Agrees (rmwAccesses f m s) s mem) :
    comboMem f g m (s.setMem mem) =
      (comboMem f g m s).setMem (replayWrites (rmwAccesses f m s) mem) := by
  rw [comboMem, memOperand_setMem h, rmwMem_setMem h]
  rfl

/-- An effect on the cell of a mode makes that mode's accesses, if the effect on a cell does. -/
theorem onCell_setMem {k : MemMode → State → State} {accesses : MemMode → State → List Access}
    (hk : ∀ m, Agrees (accesses m s) s mem →
      k m (s.setMem mem) = (k m s).setMem (replayWrites (accesses m s) mem))
    {mode : Mode} (h : Agrees (onMemMode accesses mode s) s mem) :
    onCell k mode (s.setMem mem) =
      (onCell k mode s).setMem (replayWrites (onMemMode accesses mode s) mem) := by
  cases mode with
  | mem m => exact hk m h
  | _ => rfl

theorem onTarget_setMem {f : Unary} {mode : Mode}
    (h : Agrees (onMemMode (rmwAccesses f) mode s) s mem) :
    onTarget f mode (s.setMem mem) =
      (onTarget f mode s).setMem (replayWrites (onMemMode (rmwAccesses f) mode s) mem) := by
  cases mode with
  | mem m => exact rmwMem_setMem h
  | _ => rfl

theorem onBranch_setMem (cond : Bool) (mode : Mode) :
    onBranch cond mode (s.setMem mem) = (onBranch cond mode s).setMem mem := by
  cases mode with
  | relative off => cases cond <;> rfl
  | _ => rfl

/-- A jump to an absolute operand reads nothing, an indirect one its pointer (R89). -/
theorem onJump_setMem {mode : Mode} (ok : modeOk .jmp mode = true)
    (h : Agrees (jumpAccesses mode) s mem) :
    onJump mode (s.setMem mem) =
      (onJump mode s).setMem (replayWrites (jumpAccesses mode) mem) := by
  cases mode with
  | indirect w =>
    have target : readJumpPointer (s.setMem mem) w = readJumpPointer s w :=
      Agrees.word (l := []) (by rwa [List.append_nil])
    rw [onJump, target]
    rfl
  | mem m =>
    cases m with
    | abs w => rfl
    | _ => cases ok
  | _ => rfl

/-- The two pushes write the return address's bytes; the mode of JSR names no other cell (R180). -/
theorem onCall_setMem {mode : Mode} (ok : modeOk .jsr mode = true) :
    onCall mode (s.setMem mem) = (onCall mode s).setMem
      (replayWrites (pushAccesses [hiByte (s.pc - 1#16), loByte (s.pc - 1#16)] s.sp) mem) := by
  cases mode with
  | mem m =>
    cases m with
    | abs w => rfl
    | _ => cases ok
  | _ => cases ok

theorem pop_setMem {n : Nat} (h : Agrees (popAccesses (n + 1) s.sp) s mem) :
    pop (s.setMem mem) = ((pop s).1, (pop s).2.setMem mem) :=
  Prod.ext (Agrees.head h) rfl

theorem popWord_setMem {n : Nat} (h : Agrees (popAccesses (n + 2) s.sp) s mem) :
    popWord (s.setMem mem) = ((popWord s).1, (popWord s).2.setMem mem) := by
  have low := pop_setMem h
  have high : pop ((pop s).2.setMem mem) = _ := pop_setMem (n := n) (Agrees.tail h)
  rw [popWord, low, high, popWord]

theorem returnFromInterrupt_setMem (h : Agrees (popAccesses 3 s.sp) s mem) :
    returnFromInterrupt (s.setMem mem) = (returnFromInterrupt s).setMem mem := by
  have status := pop_setMem h
  have target : popWord (((pop s).2.setFlags (decodeStatus (pop s).1)).setMem mem) = _ :=
    popWord_setMem (n := 0) (Agrees.tail h)
  rw [returnFromInterrupt, status]
  exact congrArg (fun p : Addr × State => p.2.setPc p.1) target

/-- BRK reads its vector after its pushes, from memories that the same pushes changed. -/
theorem takeBreak_setMem {pushes : List Access}
    (h : Agrees (pushes ++ wordReads brkVector) s mem) :
    takeBreak (s.setMem mem) = (takeBreak s).setMem
      (replayWrites (pushAccesses
        [hiByte (s.pc + 1#16), loByte (s.pc + 1#16), encodeStatus s.flags] s.sp) mem) := by
  have low := Agrees.head (Agrees.right h)
  have high := Agrees.head (Agrees.tail (Agrees.right h))
  have vector : readWord (push (encodeStatus s.flags) (pushWord (s.pc + 1#16) (s.setMem mem)))
      brkVector = readWord (push (encodeStatus s.flags) (pushWord (s.pc + 1#16) s)) brkVector := by
    simp only [readWord, pushWord, readByte_push, low, high]
    rfl
  exact congrArg (((takeBreak s).setMem _).setPc ·) vector

end

/-- An instruction run in a memory that agrees on the cells it reads makes of the state what it
does in the state's own, and of the memory what its listed writes do. -/
theorem meaningOf_setMem (i : Instr) {s : State} {mem : Memory}
    (h : Agrees (dataAccesses i s) s mem) :
    meaningOf i.mnemonic i.mode (s.setMem mem) =
      (meaningOf i.mnemonic i.mode s).setMem (replayWrites (dataAccesses i s) mem) := by
  have ok := modeOk_of i
  unfold dataAccesses at h ⊢
  generalize i.mnemonic = mn at h ok ⊢
  generalize i.mode = mode at h ok ⊢
  cases mn with
  | lda | ldx | ldy | adc | sbc | and | ora | eor | cmp | cpx | cpy | bit | lax =>
    rw [meaningOf, source_setMem h, replayWrites_readAccesses]
    rfl
  | nopIll => rw [replayWrites_readAccesses]; rfl
  | sta | stx | sty | sax => exact onCell_setMem (fun _ => store_setMem) h
  | inc | dec => exact onCell_setMem (fun _ => rmwMem_setMem) h
  | asl | lsr | rol | ror => exact onTarget_setMem h
  | slo | rla | sre | rra | dcp | isc => exact onCell_setMem (fun _ => comboMem_setMem) h
  | bcc | bcs | beq | bne | bmi | bpl | bvc | bvs => exact onBranch_setMem _ mode
  | jmp => exact onJump_setMem ok h
  | jsr => exact onCall_setMem ok
  | rts => rw [meaningOf, popWord_setMem h]; rfl
  | rti => exact returnFromInterrupt_setMem h
  | pla | plp => rw [meaningOf, pop_setMem h]; rfl
  | brk => rw [replayWrites_append]; exact takeBreak_setMem h
  | pha | php | tax | tay | txa | tya | tsx | txs | inx | iny | dex | dey
  | clc | sec | cli | sei | cld | sed | clv | nop => rfl

/-- What an instruction leaves in memory is its listed writes, made in order. -/
theorem meaningOf_mem (i : Instr) (s : State) :
    (meaningOf i.mnemonic i.mode s).mem = replayWrites (dataAccesses i s) s.mem :=
  congrArg State.mem (meaningOf_setMem i (mem := s.mem) fun _ _ => rfl)

/-! ## How many accesses (R48) -/

section
variable (m : MemMode) (mode : Mode) (s : State)

theorem pointerReads_counts : readCount (pointerReads m s) = expectedPointerReads (.mem m) ∧
    writeCount (pointerReads m s) = 0 := by
  cases m <;> exact ⟨rfl, rfl⟩

theorem readAccesses_counts :
    readCount (onMemMode readAccesses mode s) = expectedPointerReads mode + namesCell mode ∧
    writeCount (onMemMode readAccesses mode s) = 0 := by
  cases mode with
  | mem m =>
    obtain ⟨reads, writes⟩ := pointerReads_counts m s
    rw [onMemMode, readAccesses, readCount_append, writeCount_append, reads, writes]
    exact ⟨rfl, rfl⟩
  | _ => exact ⟨rfl, rfl⟩

theorem writeAccesses_counts (v : Byte) :
    readCount (onMemMode (writeAccesses v) mode s) = expectedPointerReads mode ∧
    writeCount (onMemMode (writeAccesses v) mode s) = namesCell mode := by
  cases mode with
  | mem m =>
    obtain ⟨reads, writes⟩ := pointerReads_counts m s
    rw [onMemMode, writeAccesses, readCount_append, writeCount_append, reads, writes]
    exact ⟨rfl, rfl⟩
  | _ => exact ⟨rfl, rfl⟩

theorem rmwAccesses_counts (f : Unary) :
    readCount (onMemMode (rmwAccesses f) mode s) = expectedPointerReads mode + namesCell mode ∧
    writeCount (onMemMode (rmwAccesses f) mode s) = namesCell mode := by
  cases mode with
  | mem m =>
    obtain ⟨reads, writes⟩ := pointerReads_counts m s
    rw [onMemMode, rmwAccesses, readCount_append, writeCount_append, reads, writes]
    exact ⟨rfl, rfl⟩
  | _ => exact ⟨rfl, rfl⟩

end

theorem namesCell_of_store {mode : Mode} (ok : modeOk .sta mode = true) : namesCell mode = 1 := by
  cases mode with
  | mem m => rfl
  | _ => cases ok

theorem dataAccesses_counts (i : Instr) (s : State) :
    readCount (dataAccesses i s) = expectedReads i ∧
    writeCount (dataAccesses i s) = expectedWrites i := by
  have ok := modeOk_of i
  unfold dataAccesses expectedReads expectedWrites
  generalize i.mnemonic = mn at ok ⊢
  generalize i.mode = mode at ok ⊢
  cases mn with
  | lda | ldx | ldy | adc | sbc | and | ora | eor | cmp | cpx | cpy | bit | lax | nopIll =>
    exact readAccesses_counts mode s
  | sta | stx | sty | sax =>
    obtain ⟨reads, writes⟩ := writeAccesses_counts mode s _
    exact ⟨reads, writes.trans (namesCell_of_store ok)⟩
  | inc | dec | asl | lsr | rol | ror | slo | rla | sre | rra | dcp | isc =>
    exact rmwAccesses_counts mode s _
  | jmp =>
    cases mode with
    | indirect w => exact ⟨rfl, rfl⟩
    | mem m =>
      cases m with
      | abs w => exact ⟨rfl, rfl⟩
      | _ => cases ok
    | _ => cases ok
  | bcc | bcs | beq | bne | bmi | bpl | bvc | bvs =>
    cases mode with
    | relative off => exact ⟨rfl, rfl⟩
    | _ => cases ok
  | jsr | rts | rti | brk | pha | php | pla | plp => exact ⟨rfl, rfl⟩
  | tax | tay | txa | tya | tsx | txs | inx | iny | dex | dey
  | clc | sec | cli | sei | cld | sed | clv | nop =>
    obtain rfl : mode = .implied := beq_iff_eq.1 ok
    exact ⟨rfl, rfl⟩

/-! ## Illegal NOPs (R218 to R221) -/

theorem illegalNop_effect {i : Instr} {bytes : List Byte} (nop : i.mnemonic = .nopIll)
    (encoded : encode i = bytes) (s : State) : Effect s bytes i s :=
  effect_of_meaningOf encoded (by rw [nop]; rfl)

theorem illegalNop_accesses {i : Instr} (nop : i.mnemonic = .nopIll) (s : State) :
    dataAccesses i s = onMemMode readAccesses i.mode s := by
  rw [dataAccesses, nop]

end Sys2Proof.Laws

namespace Sys2Proof.Proofs

open Sys2Proof.Machine Sys2Proof.Laws

/-- Settles O51: pattern by pattern, a byte read is the same in both memories, and a byte written
is one the access list writes. -/
theorem execDependsOnCellsItReads : Obligations.ExecDependsOnCellsItReads := by
  unfold Obligations.ExecDependsOnCellsItReads
  exact fun i s m agrees =>
    ⟨_, exec_eq i s, (exec_eq i (s.setMem m)).trans (congrArg _ (meaningOf_setMem i agrees))⟩

/-- Settles O50: the memory left is the writes of the access list, replayed. -/
theorem memoryNotStoredToIsUnchanged : Obligations.MemoryNotStoredToIsUnchanged := by
  unfold Obligations.MemoryNotStoredToIsUnchanged
  intro i s t addr completes unwritten
  rw [eq_of_exec completes, readByte, meaningOf_mem]
  exact read_replayWrites unwritten s.mem

/-- Settles O58: the accesses of each class of instruction, counted. -/
theorem accessCounts : Obligations.AccessCounts := by
  unfold Obligations.AccessCounts
  exact dataAccesses_counts

/-- Settles O39: an illegal NOP means the unchanged state, and its accesses are the reads of its
mode. -/
theorem illegalNopsChangeNothing : Obligations.IllegalNopsChangeNothing := by
  unfold Obligations.IllegalNopsChangeNothing
  intro s b w
  iterate 27 refine ⟨illegalNop_accesses rfl s, ?_⟩
  iterate 26 refine ⟨illegalNop_effect rfl rfl s, ?_⟩
  exact illegalNop_effect rfl rfl s

end Sys2Proof.Proofs
end

section
/-! The frame family (spec/10_state.md sections 1 to 4): the registers, PC, the inputs and the flags
an instruction leaves alone, and the flags it does not look at. -/

namespace Sys2Proof.Laws

open Sys2Proof.Machine

/-! ## Registers (R10, R12) -/

/-- Only the accumulator form of a shift or rotate writes A. -/
theorem onTarget_a {f : Unary} {mode : Mode} (h : mode ≠ .accumulator) (s : State) :
    (onTarget f mode s).a = s.a := by
  cases mode with
  | accumulator => exact absurd rfl h
  | _ => rfl

/-- The fold of DCP, the compare, gives A back. -/
theorem onCell_compare_a (f : Unary) (mode : Mode) (s : State) :
    (onCell (comboMem f compareFold) mode s).a = s.a := by
  cases mode <;> rfl

section
variable {mn : Mnemonic} (mode : Mode) (s : State)

theorem meaningOf_a {mode : Mode} (h : mn ∉ Register.a.writers) (shift : mode ≠ .accumulator) :
    (meaningOf mn mode s).a = s.a := by
  cases mn with
  | lda | txa | tya | pla | adc | sbc | and | ora | eor | lax | slo | rla | sre | rra | isc =>
    exact absurd (by decide) h
  | asl | lsr | rol | ror => exact onTarget_a shift s
  | dcp => exact onCell_compare_a dec mode s
  | _ => simp [meaningOf]

theorem meaningOf_x (h : mn ∉ Register.x.writers) : (meaningOf mn mode s).x = s.x := by
  cases mn with
  | ldx | tax | tsx | inx | dex | lax => exact absurd (by decide) h
  | _ => simp [meaningOf]

theorem meaningOf_y (h : mn ∉ Register.y.writers) : (meaningOf mn mode s).y = s.y := by
  cases mn with
  | ldy | tay | iny | dey => exact absurd (by decide) h
  | _ => simp [meaningOf]

theorem meaningOf_sp (h : mn ∉ Register.sp.writers) : (meaningOf mn mode s).sp = s.sp := by
  cases mn with
  | txs | pha | php | pla | plp | jsr | rts | brk | rti => exact absurd (by decide) h
  | _ => simp [meaningOf]

theorem meaningOf_config : (meaningOf mn mode s).config = s.config := by
  cases mn <;> simp [meaningOf]

/-- R15: only a control transfer writes PC beyond the fetch's advance. -/
theorem meaningOf_pc (h : mn ∉ controlTransfers) : (meaningOf mn mode s).pc = s.pc := by
  cases mn with
  | bcc | bcs | beq | bne | bmi | bpl | bvc | bvs | jmp | jsr | rts | rti | brk =>
    exact absurd (by decide) h
  | _ => simp [meaningOf]

end

theorem meaningOf_reg {i : Instr} {r : Register} (h : writesReg i r = false) (s : State) :
    (meaningOf i.mnemonic i.mode s).reg r = s.reg r := by
  obtain ⟨unlisted, shift⟩ := Bool.or_eq_false_iff.1 h
  have unlisted : i.mnemonic ∉ r.writers := fun m => by simp [m] at unlisted
  cases r with
  | a => exact meaningOf_a s unlisted (beq_eq_false_iff_ne.1 shift)
  | x => exact meaningOf_x _ s unlisted
  | y => exact meaningOf_y _ s unlisted
  | sp => exact meaningOf_sp _ s unlisted

/-! ## A flag an instruction neither reads nor writes (R20) -/

section
variable {name : FlagName}

/-- What `adc_form` and `sbc_form` say of ADC and SBC: they read C and D alone, and end in SetZN. -/
def ReadsCarryAndDecimal (g : Binary) : Prop :=
  ∀ a v c d, ∃ r c' v', ∀ f : Flags, f.c = c → f.d = d →
    g a v f = (r, setZN r { f with c := c', v := v' })

theorem ReadsCarryAndDecimal.passes {g : Binary} (form : ReadsCarryAndDecimal g)
    (h : name = .i ∨ name = .b) : BinaryPasses name g := by
  intro a v fl w
  obtain ⟨r, c', v', form⟩ := form a v fl.c fl.d
  obtain rfl | rfl := h <;> rw [form fl rfl rfl, form (fl.put _ w) rfl rfl] <;> rfl

theorem ReadsCarryAndDecimal.forgets {g : Binary} (form : ReadsCarryAndDecimal g)
    (h : name = .z ∨ name = .v ∨ name = .n) (a v : Byte) (fl : Flags) (w : Bool) :
    g a v (fl.put name w) = g a v fl := by
  obtain ⟨r, c', v', form⟩ := form a v fl.c fl.d
  obtain rfl | rfl | rfl := h <;> rw [form fl rfl rfl, form (fl.put _ w) rfl rfl] <;> rfl

theorem adc_reads : ReadsCarryAndDecimal adc := adc_form

theorem sbc_reads : ReadsCarryAndDecimal sbc := sbc_form

/-- An instruction that neither reads nor writes a flag passes its value on. -/
theorem meaningOf_putFlag {mn : Mnemonic} (unread : mn ∉ name.readers)
    (unwritten : mn ∉ name.writers) (mode : Mode) (s : State) (w : Bool) :
    meaningOf mn mode (s.putFlag name w) = (meaningOf mn mode s).putFlag name w := by
  cases mn with
  | lda | ldx | ldy | lax | and | ora | eor =>
    rw [meaningOf, source_putFlag]
    cases name with
    | z | n => exact absurd (by decide) unwritten
    | _ => rfl
  | cmp | cpx | cpy =>
    rw [meaningOf, source_putFlag]
    cases name with
    | c | z | n => exact absurd (by decide) unwritten
    | _ => rfl
  | bit =>
    rw [meaningOf, source_putFlag]
    cases name with
    | z | v | n => exact absurd (by decide) unwritten
    | _ => rfl
  | adc =>
    rw [meaningOf, source_putFlag]
    cases name with
    | i | b => exact accOp_putFlag (adc_reads.passes (by simp)) _ s w
    | d => exact absurd (by decide) unread
    | _ => exact absurd (by decide) unwritten
  | sbc =>
    rw [meaningOf, source_putFlag]
    cases name with
    | i | b => exact accOp_putFlag (sbc_reads.passes (by simp)) _ s w
    | d => exact absurd (by decide) unread
    | _ => exact absurd (by decide) unwritten
  | tax | tay | txa | tya | tsx | pla | inx | iny | dex | dey =>
    cases name with
    | z | n => exact absurd (by decide) unwritten
    | _ => rfl
  | sta | stx | sty | sax => exact onCell_putFlag (fun m => store_putFlag m _ s w) mode
  | inc | dec =>
    cases name with
    | z | n => exact absurd (by decide) unwritten
    | _ => exact onCell_putFlag (fun m => rmwMem_putFlag (fun _ _ _ => rfl) m s w) mode
  | asl | lsr | rol | ror =>
    cases name with
    | c | z | n => exact absurd (by decide) unwritten
    | _ => exact onTarget_putFlag (fun _ _ _ => rfl) mode s w
  | slo | rla | sre | dcp =>
    cases name with
    | c | z | n => exact absurd (by decide) unwritten
    | _ =>
      exact onCell_putFlag
        (fun m => comboMem_putFlag (fun _ _ _ => rfl) (fun _ _ _ _ => rfl) m s w) mode
  | rra =>
    cases name with
    | i | b =>
      exact onCell_putFlag
        (fun m => comboMem_putFlag (fun _ _ _ => rfl) (adc_reads.passes (by simp)) m s w) mode
    | d => exact absurd (by decide) unread
    | _ => exact absurd (by decide) unwritten
  | isc =>
    cases name with
    | i | b =>
      exact onCell_putFlag
        (fun m => comboMem_putFlag (fun _ _ _ => rfl) (sbc_reads.passes (by simp)) m s w) mode
    | d => exact absurd (by decide) unread
    | _ => exact absurd (by decide) unwritten
  | bcc | bcs =>
    cases name with
    | c => exact absurd (by decide) unread
    | _ => exact onBranch_putFlag _ mode s w
  | beq | bne =>
    cases name with
    | z => exact absurd (by decide) unread
    | _ => exact onBranch_putFlag _ mode s w
  | bmi | bpl =>
    cases name with
    | n => exact absurd (by decide) unread
    | _ => exact onBranch_putFlag _ mode s w
  | bvc | bvs =>
    cases name with
    | v => exact absurd (by decide) unread
    | _ => exact onBranch_putFlag _ mode s w
  | jmp => exact onJump_putFlag mode s w
  | jsr => exact onCall_putFlag mode s w
  | php =>
    cases name with
    | b => rfl
    | _ => exact absurd (by decide) unread
  | brk =>
    cases name with
    | b => exact absurd (by decide) unwritten
    | _ => exact absurd (by decide) unread
  | plp | rti => cases name <;> exact absurd (by decide) unwritten
  | clc | sec =>
    cases name with
    | c => exact absurd (by decide) unwritten
    | _ => rfl
  | cli | sei =>
    cases name with
    | i => exact absurd (by decide) unwritten
    | _ => rfl
  | cld | sed =>
    cases name with
    | d => exact absurd (by decide) unwritten
    | _ => rfl
  | clv =>
    cases name with
    | v => exact absurd (by decide) unwritten
    | _ => rfl
  | txs | rts | pha | nop | nopIll => rfl

/-! ## A flag an instruction writes and does not read -/

/-- A primitive on a byte writes the flag without looking at it. -/
def UnaryForgets (name : FlagName) (f : Unary) : Prop :=
  ∀ v fl w, f v (fl.put name w) = f v fl

/-- The same for a primitive on A and a byte. -/
def BinaryForgets (name : FlagName) (f : Binary) : Prop :=
  ∀ a v fl w, f a v (fl.put name w) = f a v fl

section
variable {f : Unary} {g : Binary} {s : State} {w : Bool}

theorem accOp_forgets (hg : BinaryForgets name g) (v : Byte) :
    accOp g v (s.putFlag name w) = accOp g v s := by
  rw [accOp, putFlag_a, putFlag_flags, hg]
  rfl

theorem rmwAcc_forgets (hf : UnaryForgets name f) :
    rmwAcc f (s.putFlag name w) = rmwAcc f s := by
  rw [rmwAcc, putFlag_a, putFlag_flags, hf]
  rfl

theorem rmwMem_forgets (hf : UnaryForgets name f) (m : MemMode) :
    rmwMem f m (s.putFlag name w) = rmwMem f m s := by
  rw [rmwMem, memOperand_putFlag, ea_putFlag, putFlag_flags, hf]
  rfl

/-- What the memory primitive forgets the fold never sees. -/
theorem comboMem_forgets (hf : UnaryForgets name f) (m : MemMode) :
    comboMem f g m (s.putFlag name w) = comboMem f g m s := by
  rw [comboMem, rmwMem_forgets hf, memOperand_putFlag, putFlag_flags, hf, comboMem]

/-- What the memory primitive passes on the fold may forget. -/
theorem comboMem_forgets_fold (hf : UnaryPasses name f) (hg : BinaryForgets name g) (m : MemMode) :
    comboMem f g m (s.putFlag name w) = comboMem f g m s := by
  rw [comboMem, rmwMem_putFlag hf, accOp_forgets hg, memOperand_putFlag, putFlag_flags, hf,
    comboMem]

theorem onCell_forgets {k : MemMode → State → State}
    (hk : ∀ m, k m (s.putFlag name w) = k m s) {mode : Mode} (ok : modeOk .inc mode = true) :
    onCell k mode (s.putFlag name w) = onCell k mode s := by
  cases mode with
  | mem m => exact hk m
  | _ => cases ok

theorem onTarget_forgets (hf : UnaryForgets name f) {mode : Mode}
    (ok : modeOk .asl mode = true) :
    onTarget f mode (s.putFlag name w) = onTarget f mode s := by
  cases mode with
  | accumulator => exact rmwAcc_forgets hf
  | mem m => exact rmwMem_forgets hf m
  | _ => cases ok

end

/-- An instruction that writes a flag and does not read it forgets its value. -/
theorem meaningOf_forgets {mn : Mnemonic} (unread : mn ∉ name.readers)
    (written : mn ∈ name.writers) {mode : Mode} (ok : modeOk mn mode = true) (s : State)
    (w : Bool) : meaningOf mn mode (s.putFlag name w) = meaningOf mn mode s := by
  cases mn with
  | lda | ldx | ldy | lax | and | ora | eor =>
    rw [meaningOf, source_putFlag]
    cases name with
    | z | n => rfl
    | _ => exact absurd written (by decide)
  | cmp | cpx | cpy =>
    rw [meaningOf, source_putFlag]
    cases name with
    | c | z | n => rfl
    | _ => exact absurd written (by decide)
  | bit =>
    rw [meaningOf, source_putFlag]
    cases name with
    | z | v | n => rfl
    | _ => exact absurd written (by decide)
  | adc =>
    rw [meaningOf, source_putFlag]
    cases name with
    | z | v | n => exact accOp_forgets (adc_reads.forgets (by simp)) _
    | c => exact absurd (by decide) unread
    | _ => exact absurd written (by decide)
  | sbc =>
    rw [meaningOf, source_putFlag]
    cases name with
    | z | v | n => exact accOp_forgets (sbc_reads.forgets (by simp)) _
    | c => exact absurd (by decide) unread
    | _ => exact absurd written (by decide)
  | tax | tay | txa | tya | tsx | pla | inx | iny | dex | dey =>
    cases name with
    | z | n => rfl
    | _ => exact absurd written (by decide)
  | inc | dec =>
    cases name with
    | z | n => exact onCell_forgets (rmwMem_forgets fun _ _ _ => rfl) ok
    | _ => exact absurd written (by decide)
  | asl | lsr =>
    cases name with
    | c | z | n => exact onTarget_forgets (fun _ _ _ => rfl) ok
    | _ => exact absurd written (by decide)
  | rol | ror =>
    cases name with
    | z | n => exact onTarget_forgets (fun _ _ _ => rfl) ok
    | c => exact absurd (by decide) unread
    | _ => exact absurd written (by decide)
  | slo | sre =>
    cases name with
    | c | z | n => exact onCell_forgets (comboMem_forgets fun _ _ _ => rfl) ok
    | _ => exact absurd written (by decide)
  | rla =>
    cases name with
    | z | n => exact onCell_forgets (comboMem_forgets fun _ _ _ => rfl) ok
    | c => exact absurd (by decide) unread
    | _ => exact absurd written (by decide)
  | dcp =>
    cases name with
    | z | n => exact onCell_forgets (comboMem_forgets fun _ _ _ => rfl) ok
    | c =>
      exact onCell_forgets (comboMem_forgets_fold (fun _ _ _ => rfl) fun _ _ _ _ => rfl) ok
    | _ => exact absurd written (by decide)
  | rra =>
    cases name with
    | z | n => exact onCell_forgets (comboMem_forgets fun _ _ _ => rfl) ok
    | v =>
      exact onCell_forgets
        (comboMem_forgets_fold (fun _ _ _ => rfl) (adc_reads.forgets (by simp))) ok
    | c => exact absurd (by decide) unread
    | _ => exact absurd written (by decide)
  | isc =>
    cases name with
    | z | n => exact onCell_forgets (comboMem_forgets fun _ _ _ => rfl) ok
    | v =>
      exact onCell_forgets
        (comboMem_forgets_fold (fun _ _ _ => rfl) (sbc_reads.forgets (by simp))) ok
    | c => exact absurd (by decide) unread
    | _ => exact absurd written (by decide)
  | clc | sec =>
    cases name with
    | c => rfl
    | _ => exact absurd written (by decide)
  | cli | sei =>
    cases name with
    | i => rfl
    | _ => exact absurd written (by decide)
  | cld | sed =>
    cases name with
    | d => rfl
    | _ => exact absurd written (by decide)
  | clv =>
    cases name with
    | v => rfl
    | _ => exact absurd written (by decide)
  | brk =>
    cases name with
    | b => rfl
    | i => exact absurd (by decide) unread
    | _ => exact absurd written (by decide)
  | plp | rti => cases name <;> rfl
  | sta | stx | sty | sax | txs | bcc | bcs | beq | bne | bmi | bpl | bvc | bvs | jmp | jsr | rts
  | pha | php | nop | nopIll => cases name <;> exact absurd written (by decide)

/-! ## The flags left alone -/

theorem putFlag_get (s : State) : s.putFlag name (s.flags.get name) = s := by
  cases name <;> rfl

theorem get_putFlag (s : State) (w : Bool) : (s.putFlag name w).flags.get name = w := by
  cases name <;> rfl

/-- An instruction that reads a flag and does not write it: a branch, a push of the status, or
decimal arithmetic, which looks at D. -/
theorem meaningOf_get_of_reader {mn : Mnemonic} (read : mn ∈ name.readers)
    (unwritten : mn ∉ name.writers) (mode : Mode) (s : State) :
    (meaningOf mn mode s).flags.get name = s.flags.get name := by
  cases mn with
  | bcc | bcs | beq | bne | bmi | bpl | bvc | bvs =>
    exact congrArg (Flags.get · name) (onBranch_flags _ mode s)
  | php => rfl
  | brk =>
    cases name with
    | i | b => exact absurd (by decide) unwritten
    | _ => rw [meaningOf, takeBreak_flags]; rfl
  | adc | sbc =>
    cases name with
    | d => simp [meaningOf, Flags.get]
    | i | b => exact absurd read (by decide)
    | _ => exact absurd (by decide) unwritten
  | rra | isc =>
    cases name with
    | d =>
      cases mode with
      | mem m => simp [meaningOf, onCell, Flags.get, ror, inc]
      | _ => rfl
    | i | b => exact absurd read (by decide)
    | _ => exact absurd (by decide) unwritten
  | rol | ror | rla =>
    cases name with
    | c => exact absurd (by decide) unwritten
    | _ => exact absurd read (by decide)
  | _ => cases name <;> exact absurd read (by decide)

/-- A flag that is passed on keeps its own value. -/
theorem meaningOf_get {mn : Mnemonic} (unwritten : mn ∉ name.writers) (mode : Mode) (s : State) :
    (meaningOf mn mode s).flags.get name = s.flags.get name := by
  by_cases read : mn ∈ name.readers
  · exact meaningOf_get_of_reader read unwritten mode s
  · have passed := meaningOf_putFlag read unwritten mode s (s.flags.get name)
    rw [putFlag_get] at passed
    rw [passed, get_putFlag]

end

end Sys2Proof.Laws

namespace Sys2Proof.Proofs

open Sys2Proof.Machine Sys2Proof.Laws

/-- Settles O52: an unread flag is forgotten by the instructions that write it and passed on by the
others. -/
theorem flagsNotReadDoNotMatter : Obligations.FlagsNotReadDoNotMatter := by
  unfold Obligations.FlagsNotReadDoNotMatter
  refine fun i s name w unread => ⟨_, exec_eq i s, ?_⟩
  rw [exec_eq]
  by_cases written : i.mnemonic ∈ name.writers
  · rw [if_pos written, meaningOf_forgets unread written (modeOk_of i)]
  · rw [if_neg written, meaningOf_putFlag unread written]

/-- Settles O48: register by register, mnemonic by mnemonic. -/
theorem registersNotWrittenAreUnchanged : Obligations.RegistersNotWrittenAreUnchanged := by
  unfold Obligations.RegistersNotWrittenAreUnchanged
  intro i s t r completes
  rw [eq_of_exec completes]
  exact ⟨fun unwritten => meaningOf_reg unwritten s, meaningOf_config _ s⟩

/-- Settles O49: an unwritten flag is passed on, or read by an instruction that leaves it. -/
theorem flagsNotWrittenAreUnchanged : Obligations.FlagsNotWrittenAreUnchanged := by
  unfold Obligations.FlagsNotWrittenAreUnchanged
  intro i s t name completes unwritten
  rw [eq_of_exec completes]
  exact meaningOf_get unwritten i.mode s

end Sys2Proof.Proofs
end

section
/-! The step family (spec/60_exceptions.md R230 to R233, R247): what a step keeps, when it faults,
which instruction it runs, and where PC stands after it. -/

namespace Sys2Proof.Laws

open Sys2Proof.Machine

/-! ## The fault (R232) -/

/-- The bytes outside the legal table, by R66 and R67. -/
theorem not_mem_legalBytes_iff (op : Byte) :
    op.toNat ∉ legalBytes ↔ op.toNat ∈ unmappedBytes ∨ op.toNat ∈ illegalBytes := by
  revert op; decide

theorem lookup_eq_none_iff (allow : Bool) (op : Byte) : lookup allow op = none ↔
    op.toNat ∈ unmappedBytes ∨ (op.toNat ∈ illegalBytes ∧ allow = false) := by
  rw [← Option.not_isSome_iff_eq_none]
  cases allow with
  | false => rw [lookup_legal_isSome_iff, not_mem_legalBytes_iff]; simp
  | true => rw [lookup_all_isSome_iff]; simp

/-! ## The instruction a step runs (R80, R81, R230) -/

theorem add_one_add_one (pc : Addr) : pc + 1#16 + 1#16 = pc + 2#16 := BitVec.add_assoc _ _ _

/-- When the bytes at PC decode, the fetch finds the same instruction, and PC moves past its
operand bytes. -/
theorem fetchOperands_eq {shape : Shape} {s : State} {rest : List Byte} {i : Instr}
    (made : shape.decode [readByte s s.pc, readByte s (s.pc + 1#16)] = .instr i rest) :
    fetchOperands shape s =
      (i, s.setPc (s.pc + BitVec.ofNat 16 (2 - rest.length))) := by
  cases shape with
  | f1 i' => cases made; simp [State.setPc]
  | f2 make => cases made; rfl
  | f3 make => cases made; rw [fetchOperands_f3, add_one_add_one]; rfl

/-- A step runs the instruction whose bytes stand at PC. -/
theorem step_of_decode {s : State} {i : Instr} {rest : List Byte}
    (h : decode s.config.allowIllegalOps
      [readByte s s.pc, readByte s (s.pc + 1#16), readByte s (s.pc + 2#16)] = .instr i rest) :
    step s = exec i (s.setPc (s.pc + BitVec.ofNat 16 i.length)) := by
  obtain ⟨op, tail, shape, bytes, found, made⟩ := decode_eq_instr h
  obtain ⟨rfl, rfl⟩ := List.cons.inj bytes
  have fetched : fetchOperands shape (s.setPc (s.pc + 1#16)) = _ :=
    fetchOperands_eq (by
      rwa [State.setPc_pc, add_one_add_one, readByte_setPc, readByte_setPc])
  have size : i.length = 1 + (2 - rest.length) := by
    have whole := congrArg List.length (wf_and_encode_of_decode h).2
    have opcode : 1 ≤ i.length := encode_length i ▸ Nat.succ_pos _
    rw [List.length_append, encode_length] at whole
    simp only [List.length_cons, List.length_nil] at whole
    omega
  have past : s.pc + 1#16 + BitVec.ofNat 16 (2 - rest.length) =
      s.pc + BitVec.ofNat 16 i.length := by
    rw [size, BitVec.ofNat_add, ← BitVec.add_assoc]
  rw [step_of_some found, fetched, State.setPc_pc, past]
  rfl

/-! ## The invariant of every step -/

/-- The memory after a step is the instruction's writes replayed on the memory before it. -/
theorem step_keeps_inv {cfg : Config} {s t : State} (inv : s.Inv cfg) (h : step s = .next t) :
    t.Inv cfg := by
  obtain ⟨canonical, inputs⟩ := inv
  obtain ⟨-, fault⟩ | ⟨i, pc, -, -, next⟩ := step_cases s
  · rw [fault] at h
    cases h
  · obtain rfl : meaningOf i.mnemonic i.mode (s.setPc pc) = t := by
      rw [next] at h
      exact Host.Outcome.next.inj h
    exact ⟨by rw [meaningOf_mem]; exact replayWrites_wf _ canonical,
      (meaningOf_config _ _).trans inputs⟩

/-! ## Self-jumps (R247) -/

theorem selfJump_of_step_eq {s : State} (h : step s = .next s) :
    step s = .next s ∧ selfJump s = true := by
  refine ⟨h, ?_⟩
  rw [selfJump, h]
  exact beq_self_eq_true s.pc

theorem step_jump_to_itself {s : State} (opcode : readByte s s.pc = 0x4C#8)
    (low : readByte s (s.pc + 1#16) = loByte s.pc)
    (high : readByte s (s.pc + 2#16) = hiByte s.pc) : step s = .next s := by
  rw [step_of_decode (i := .jmpAbs s.pc) (rest := []), exec_eq]
  · rfl
  · rw [opcode, low, high]
    exact decode_encode (i := .jmpAbs s.pc) rfl []

/-- The offset 0xFE takes PC back over the two bytes of the branch. -/
theorem branchTarget_itself (s : State) :
    branchTarget 0xFE#8 (s.setPc (s.pc + 2#16)) = s.pc := by
  have back : sext16 0xFE#8 = 0xFFFE#16 := rfl
  rw [branchTarget, State.setPc_pc, back, BitVec.add_assoc]
  exact BitVec.add_zero _

/-- A branch with offset 0xFE, taken from the state the fetch leaves. -/
theorem step_branch_to_itself {s : State} {i : Instr} (legal : i.table = .legal)
    (mode : i.mode = .relative 0xFE#8)
    (taken : meaningOf i.mnemonic i.mode (s.setPc (s.pc + 2#16)) =
      (s.setPc (s.pc + 2#16)).setPc (branchTarget 0xFE#8 (s.setPc (s.pc + 2#16))))
    (opcode : readByte s s.pc = i.opcode) (off : readByte s (s.pc + 1#16) = 0xFE#8) :
    step s = .next s := by
  have size : i.length = 2 := by rw [Instr.length, Instr.format, mode]; rfl
  have encoded : encode i = [i.opcode, 0xFE#8] := by rw [encode, mode]; rfl
  have decoded : decode s.config.allowIllegalOps
      [readByte s s.pc, readByte s (s.pc + 1#16), readByte s (s.pc + 2#16)] =
        .instr i [readByte s (s.pc + 2#16)] := by
    have := decode_encode (allow := s.config.allowIllegalOps) (i := i)
      (by rw [wf_eq_active, legal]; rfl) [readByte s (s.pc + 2#16)]
    rwa [encoded, ← opcode, ← off] at this
  rw [step_of_decode decoded, exec_eq, size, taken, branchTarget_itself]
  rfl

end Sys2Proof.Laws

namespace Sys2Proof.Proofs

open Sys2Proof.Machine Sys2Proof.Laws

/-- Settles O3: the next state's memory is a list of writes replayed, and each write keeps the
canonical form. -/
theorem stepKeepsInvariant : Obligations.StepKeepsInvariant := by
  unfold Obligations.StepKeepsInvariant
  exact fun _ _ _ inv next => step_keeps_inv inv next

/-- Settles O2: no cell is listed after reset. -/
theorem resetMeetsInvariant : Obligations.ResetMeetsInvariant := by
  unfold Obligations.ResetMeetsInvariant
  exact fun _ => ⟨rfl, rfl⟩

/-- Settles O44: the bytes without a row are those of the two lists, and every row's instruction
completes. -/
theorem stepFaultsOnlyOnUnmappedOpcode : Obligations.StepFaultsOnlyOnUnmappedOpcode := by
  unfold Obligations.StepFaultsOnlyOnUnmappedOpcode
  intro s
  rw [← lookup_eq_none_iff]
  refine ⟨step_of_none, fun mapped => ?_⟩
  obtain ⟨unmapped, -⟩ | ⟨i, pc, -, -, next⟩ := step_cases s
  · exact absurd unmapped mapped
  · exact ⟨_, next⟩

/-- Settles O45: the host sees the one of the two cases of a step. -/
theorem hostStepReportsAndLeavesState : Obligations.HostStepReportsAndLeavesState := by
  unfold Obligations.HostStepReportsAndLeavesState
  intro s
  obtain ⟨-, fault⟩ | ⟨i, pc, -, -, next⟩ := step_cases s
  · exact .inr ⟨_, fault, rfl, by rw [hostStep, fault]; rfl⟩
  · exact .inl ⟨_, next, by rw [hostStep, next]⟩

/-- Settles O46: what decodes is well formed, and the fetch finds what the decoder does. -/
theorem stepRunsDecodedInstruction : Obligations.StepRunsDecodedInstruction := by
  unfold Obligations.StepRunsDecodedInstruction
  exact fun _ _ _ decoded => ⟨(wf_and_encode_of_decode decoded).1, step_of_decode decoded⟩

/-- Settles O47: the fetch moves PC past the bytes, and the instruction leaves it there. -/
theorem pcAdvancesByLength : Obligations.PcAdvancesByLength := by
  unfold Obligations.PcAdvancesByLength
  intro s t i rest decoded noTransfer completes
  rw [step_of_decode decoded] at completes
  rw [eq_of_exec completes, meaningOf_pc _ _ noTransfer, State.setPc_pc, BitVec.toNat_add,
    BitVec.toNat_ofNat, Nat.add_mod_mod]

/-- Settles O57: JMP sets PC to where it was; a taken branch goes back over its own two bytes. -/
theorem selfJumps : Obligations.SelfJumps := by
  unfold Obligations.SelfJumps
  rintro s (⟨opcode, low, high⟩ | ⟨off, branch⟩) <;> apply selfJump_of_step_eq
  · exact step_jump_to_itself opcode low high
  · obtain ⟨opcode, flag⟩ | ⟨opcode, flag⟩ | ⟨opcode, flag⟩ | ⟨opcode, flag⟩ | ⟨opcode, flag⟩ |
      ⟨opcode, flag⟩ | ⟨opcode, flag⟩ | ⟨opcode, flag⟩ := branch
    · exact step_branch_to_itself (i := .bcc 0xFE#8) rfl rfl
        ((branchIf_not_eq s.flags.c _ _).trans (if_pos flag)) opcode off
    · exact step_branch_to_itself (i := .bcs 0xFE#8) rfl rfl
        ((branchIf_eq s.flags.c _ _).trans (if_pos flag)) opcode off
    · exact step_branch_to_itself (i := .beq 0xFE#8) rfl rfl
        ((branchIf_eq s.flags.z _ _).trans (if_pos flag)) opcode off
    · exact step_branch_to_itself (i := .bne 0xFE#8) rfl rfl
        ((branchIf_not_eq s.flags.z _ _).trans (if_pos flag)) opcode off
    · exact step_branch_to_itself (i := .bmi 0xFE#8) rfl rfl
        ((branchIf_eq s.flags.n _ _).trans (if_pos flag)) opcode off
    · exact step_branch_to_itself (i := .bpl 0xFE#8) rfl rfl
        ((branchIf_not_eq s.flags.n _ _).trans (if_pos flag)) opcode off
    · exact step_branch_to_itself (i := .bvc 0xFE#8) rfl rfl
        ((branchIf_not_eq s.flags.v _ _).trans (if_pos flag)) opcode off
    · exact step_branch_to_itself (i := .bvs 0xFE#8) rfl rfl
        ((branchIf_eq s.flags.v _ _).trans (if_pos flag)) opcode off

end Sys2Proof.Proofs
end

section
/-! The number family (spec/20_memory.md R44, spec/40_addressing.md, spec/41_alu_primitives.md):
words, indexed addresses and branch targets as numbers, and decimal arithmetic by nibbles. -/

namespace Sys2Proof.Laws

open Sys2Proof.Machine

/-! ## Words and addresses (R44, R88 to R91, R115) -/

theorem next_addr_eq (addr : Addr) : addr + 1#16 = BitVec.ofNat 16 ((addr.toNat + 1) % 65536) := by
  apply BitVec.eq_of_toNat_eq
  simp

theorem readWord_toNat (s : State) (addr : Addr) : (readWord s addr).toNat =
    (readByte s addr).toNat +
      256 * (readByte s (BitVec.ofNat 16 ((addr.toNat + 1) % 65536))).toNat := by
  rw [readWord, joinBytes_toNat, next_addr_eq]
  omega

/-- The high byte of a zero-page pointer is read at the next address, 0x0100 after 0xFF (R90, R91;
decision D2). -/
theorem readZeroPagePointer_toNat (s : State) (p : Byte) : (readZeroPagePointer s p).toNat =
    (readByte s (BitVec.ofNat 16 p.toNat)).toNat +
      256 * (readByte s (BitVec.ofNat 16 (p.toNat + 1))).toNat := by
  have pointer : zext16 p = BitVec.ofNat 16 p.toNat := (BitVec.ofNat_toNat 16 p).symm
  have noWrap : (p.toNat + 1) % 65536 = p.toNat + 1 := by
    have := p.isLt
    omega
  rw [readZeroPagePointer, readWord_toNat, zext16_toNat, noWrap, pointer]

theorem add_zext16_toNat (w : Addr) (index : Byte) :
    (w + zext16 index).toNat = (w.toNat + index.toNat) % 65536 := by
  rw [BitVec.toNat_add, zext16_toNat]

/-- R7: the sign extension of a byte, as a number. -/
theorem sext16_toNat (off : Byte) :
    (sext16 off).toNat = if off.toNat ≤ 0x7F then off.toNat else off.toNat + 0xFF00 := by
  revert off; decide

theorem branchTarget_toInt (s : State) (off : Byte) : ((branchTarget off s).toNat : Int) =
    ((s.pc.toNat : Int) + (if off.toNat ≤ 0x7F then (off.toNat : Int) else (off.toNat : Int) - 256))
      % 65536 := by
  rw [branchTarget, BitVec.toNat_add, sext16_toNat]
  split <;> omega

/-! ## Decimal addition and subtraction by nibbles (R104, R106, decision D6) -/

theorem u8Int_toNat (n : Int) : ((u8Int n).toNat : Int) = n % 256 := by
  rw [u8Int, BitVec.toNat_ofInt]
  omega

theorem u8Int_add_256 (n : Int) : u8Int (n + 256) = u8Int n := by
  apply BitVec.eq_of_toNat_eq
  have := u8Int_toNat n
  have := u8Int_toNat (n + 256)
  omega

section
variable {a v : Byte} {ah al vh vl : Nat} (f : Flags)
  (ha : a.toNat = 16 * ah + al) (hal : al < 16) (hv : v.toNat = 16 * vh + vl) (hvl : vl < 16)
include ha hal hv hvl

/-- The nibbles as the model masks them, and the sign bits as the high nibbles give them. -/
theorem nibbles_masked : (a &&& 0x0F#8).toNat = al ∧ (v &&& 0x0F#8).toNat = vl ∧
    (a &&& 0xF0#8).toNat = 16 * ah ∧ (v &&& 0xF0#8).toNat = 16 * vh ∧
    (((a ^^^ v) &&& 0x80#8) == 0x00#8) = decide (ah < 8 ↔ vh < 8) := by
  rw [lowNibble_toNat, lowNibble_toNat, highNibble_toNat, highNibble_toNat, sameSign_eq,
    decide_eq_decide]
  omega

/-- R104 in one piece: the corrected sum, C from its size, V from the signs and the sum. -/
theorem adcDec_eq {t : Nat}
    (sum : t = (if al + vl + bitOf f.c < 10 then al + vl + bitOf f.c
      else 16 + (al + vl + bitOf f.c + 6) % 16) + 16 * ah + 16 * vh) :
    adcDec a v f = (u8 (if t < 160 then t else t + 96),
      setZN (u8 (if t < 160 then t else t + 96)) { f with
        c := decide (160 ≤ t)
        v := decide ((ah < 8 ↔ vh < 8) ∧ 128 ≤ t ∧ t < 384) }) := by
  obtain ⟨lowA, lowV, highA, highV, sign⟩ := nibbles_masked ha hal hv hvl
  have carry := bitOf_le_one f.c
  have corrected := lowCorrection (al + vl + bitOf f.c) (by omega)
  have model : (if al + vl + bitOf f.c ≥ 0x0A
      then 0x10 ||| ((al + vl + bitOf f.c + 0x06) &&& 0x0F)
      else al + vl + bitOf f.c) + 16 * ah + 16 * vh = t := by
    rw [corrected, sum]
    split <;> split <;> omega
  simp only [adcDec, sign, lowA, lowV, highA, highV, model]
  by_cases carryOut : 160 ≤ t
  · have small : ¬ t < 160 := by omega
    have bounds : (!decide (t ≥ 0x180)) = decide (128 ≤ t ∧ t < 384) := by
      rw [← decide_not, decide_eq_decide]
      omega
    simp [carryOut, small, bounds]
  · have small : t < 160 := by omega
    have bounds : (!decide (t < 0x80)) = decide (128 ≤ t ∧ t < 384) := by
      rw [← decide_not, decide_eq_decide]
      omega
    simp [carryOut, small, bounds]

theorem adcDec_nibbles {t : Nat}
    (sum : t = (if al + vl + bitOf f.c < 10 then al + vl + bitOf f.c
      else 16 + (al + vl + bitOf f.c + 6) % 16) + 16 * ah + 16 * vh) :
    (adcDec a v f).1.toNat = (if t < 160 then t else t + 96) % 256 ∧
    ((adcDec a v f).2.c = true ↔ 160 ≤ t) ∧
    ((adcDec a v f).2.v = true ↔ (ah < 8 ↔ vh < 8) ∧ 128 ≤ t ∧ t < 384) ∧
    ((adcDec a v f).2.z = true ↔ (if t < 160 then t else t + 96) % 256 = 0) ∧
    ((adcDec a v f).2.n = true ↔ 128 ≤ (if t < 160 then t else t + 96) % 256) ∧
    (adcDec a v f).2.i = f.i ∧ (adcDec a v f).2.d = f.d ∧ (adcDec a v f).2.b = f.b := by
  rw [adcDec_eq f ha hal hv hvl sum, setZN_z_iff, setZN_n_iff, u8_toNat]
  exact ⟨rfl, decide_eq_true_iff, decide_eq_true_iff, .rfl, .rfl, rfl, rfl, rfl⟩

/-- R106 in one piece: the corrected difference, C and the correction from the sign of its high
digit, V from the signs and the high digit. -/
theorem sbcDec_eq {low h : Int}
    (lowDigit : low =
      (al : Int) - vl - (1 - bitOf f.c) + (if al + bitOf f.c < vl + 1 then 10 else 0))
    (highDigit : h = (ah : Int) - vh - (if al + bitOf f.c < vl + 1 then 1 else 0)) :
    sbcDec a v f = (u8Int (16 * h + low - (if h < 0 then 96 else 0)),
      setZN (u8Int (16 * h + low - (if h < 0 then 96 else 0))) { f with
        c := decide (0 ≤ h)
        v := decide (¬(ah < 8 ↔ vh < 8) ∧ -8 ≤ h ∧ h < 8) }) := by
  obtain ⟨lowA, lowV, highA, highV, sign⟩ := nibbles_masked ha hal hv hvl
  have borrow : (0x0F + (al : Int) - vl + bitOf f.c < 0x10) = (al + bitOf f.c < vl + 1) :=
    propext (by omega)
  have digit : (if al + bitOf f.c < vl + 1 then 0x0F + (al : Int) - vl + bitOf f.c - 0x06
      else 0x0F + (al : Int) - vl + bitOf f.c - 0x10) = low := by
    rw [lowDigit]
    split <;> omega
  have high : (if al + bitOf f.c < vl + 1 then (0x00 : Int) else 0x10) + 0xF0 +
      (16 * ah : Nat) - (16 * vh : Nat) = 16 * h + 256 := by
    rw [highDigit]
    split <;> omega
  simp only [sbcDec, bne, sign, lowA, lowV, highA, highV, borrow, digit, high]
  by_cases negative : h < 0
  · have below : 16 * h + 256 < 0x100 := by omega
    have noCarry : ¬ 0 ≤ h := by omega
    have bounds : (!decide (16 * h + 256 < 0x80)) = decide (-8 ≤ h ∧ h < 8) := by
      rw [← decide_not, decide_eq_decide]
      omega
    have byte : u8Int (16 * h + 256 - 0x60 + low) = u8Int (16 * h + low - 96) := by
      rw [← u8Int_add_256 (16 * h + low - 96)]
      congr 1
      omega
    simp [negative, below, noCarry, bounds, byte]
  · have above : ¬ 16 * h + 256 < 0x100 := by omega
    have carryOut : 0 ≤ h := by omega
    have bounds : (!decide (16 * h + 256 ≥ 0x180)) = decide (-8 ≤ h ∧ h < 8) := by
      rw [← decide_not, decide_eq_decide]
      omega
    have byte : u8Int (16 * h + 256 + low) = u8Int (16 * h + low) := by
      rw [← u8Int_add_256 (16 * h + low)]
      congr 1
      omega
    simp [negative, above, carryOut, bounds, byte]

theorem sbcDec_nibbles {low h : Int}
    (lowDigit : low =
      (al : Int) - vl - (1 - bitOf f.c) + (if al + bitOf f.c < vl + 1 then 10 else 0))
    (highDigit : h = (ah : Int) - vh - (if al + bitOf f.c < vl + 1 then 1 else 0)) :
    ((sbcDec a v f).1.toNat : Int) = (16 * h + low - (if h < 0 then 96 else 0)) % 256 ∧
    ((sbcDec a v f).2.c = true ↔ 0 ≤ h) ∧
    ((sbcDec a v f).2.v = true ↔ ¬(ah < 8 ↔ vh < 8) ∧ -8 ≤ h ∧ h < 8) ∧
    ((sbcDec a v f).2.z = true ↔ (16 * h + low - (if h < 0 then 96 else 0)) % 256 = 0) ∧
    ((sbcDec a v f).2.n = true ↔ 128 ≤ (16 * h + low - (if h < 0 then 96 else 0)) % 256) ∧
    (sbcDec a v f).2.i = f.i ∧ (sbcDec a v f).2.d = f.d ∧ (sbcDec a v f).2.b = f.b := by
  rw [sbcDec_eq f ha hal hv hvl lowDigit highDigit, setZN_z_iff, setZN_n_iff, ← u8Int_toNat]
  exact ⟨rfl, decide_eq_true_iff, decide_eq_true_iff, Int.natCast_eq_zero.symm,
    Int.ofNat_le.symm, rfl, rfl, rfl⟩

end

/-! ## Decimal arithmetic on decimal digits (R104, R106) -/

theorem nibbles_toNat {high low : Nat} (hh : high < 16) (hl : low < 16) :
    (BitVec.ofNat 8 (16 * high + low)).toNat = 16 * high + low := by
  rw [BitVec.toNat_ofNat]
  omega

theorem bcd_toNat {n : Nat} (h : n < 100) : (bcd n).toNat = 16 * (n / 10) + n % 10 := by
  rw [bcd, BitVec.toNat_ofNat]
  omega

/-- A decimal digit is a nibble. -/
theorem digit_lt_16 (n : Nat) : n % 10 < 16 := (Nat.mod_lt n (by decide)).trans (by decide)

section
variable {x y : Nat} (hx : x < 100) (hy : y < 100) (f : Flags)
include hx hy

/-- A low digit of at least 10 is corrected by 6, and so is the high one: the sum of the digits is
that of the numbers, less 100 if it exceeds 99. -/
theorem adcDec_bcd :
    (adcDec (bcd x) (bcd y) f).1 = bcd ((x + y + bitOf f.c) % 100) ∧
    ((adcDec (bcd x) (bcd y) f).2.c = true ↔ 99 < x + y + bitOf f.c) ∧
    ((adcDec (bcd x) (bcd y) f).2.z = true ↔ (adcDec (bcd x) (bcd y) f).1.toNat = 0) ∧
    ((adcDec (bcd x) (bcd y) f).2.n = true ↔ 128 ≤ (adcDec (bcd x) (bcd y) f).1.toNat) ∧
    (adcDec (bcd x) (bcd y) f).2.i = f.i ∧ (adcDec (bcd x) (bcd y) f).2.d = f.d ∧
    (adcDec (bcd x) (bcd y) f).2.b = f.b := by
  have carry := bitOf_le_one f.c
  generalize sum : (if x % 10 + y % 10 + bitOf f.c < 10 then x % 10 + y % 10 + bitOf f.c
    else 16 + (x % 10 + y % 10 + bitOf f.c + 6) % 16) + 16 * (x / 10) + 16 * (y / 10) = t
  obtain ⟨byte, c, -, z, n, others⟩ := adcDec_nibbles f (bcd_toNat hx) (digit_lt_16 x)
    (bcd_toNat hy) (digit_lt_16 y) sum.symm
  have corrected : t = x % 10 + y % 10 + bitOf f.c +
      (if x % 10 + y % 10 + bitOf f.c < 10 then 0 else 6) + 16 * (x / 10) + 16 * (y / 10) := by
    rw [← sum]
    split <;> omega
  have carryOut : 160 ≤ t ↔ 99 < x + y + bitOf f.c := by split at corrected <;> omega
  refine ⟨?_, c.trans carryOut, by rwa [byte], by rwa [byte], others⟩
  apply BitVec.eq_of_toNat_eq
  rw [byte, bcd_toNat (Nat.mod_lt _ (by decide))]
  by_cases large : 99 < x + y + bitOf f.c
  · have wrapped : (x + y + bitOf f.c) % 100 = x + y + bitOf f.c - 100 := by omega
    rw [wrapped, if_neg (by omega)]
    split at corrected <;> omega
  · have fits : (x + y + bitOf f.c) % 100 = x + y + bitOf f.c := by omega
    rw [fits, if_pos (by omega)]
    split at corrected <;> omega

/-- A borrow makes 10 of the next digit's 1: the difference of the digits is that of the numbers,
plus 100 if it is negative. -/
theorem sbcDec_bcd :
    (sbcDec (bcd x) (bcd y) f).1 = bcd ((x + 100 + bitOf f.c - 1 - y) % 100) ∧
    ((sbcDec (bcd x) (bcd y) f).2.c = true ↔ y + (1 - bitOf f.c) ≤ x) ∧
    ((sbcDec (bcd x) (bcd y) f).2.z = true ↔ (sbcDec (bcd x) (bcd y) f).1.toNat = 0) ∧
    ((sbcDec (bcd x) (bcd y) f).2.n = true ↔ 128 ≤ (sbcDec (bcd x) (bcd y) f).1.toNat) ∧
    (sbcDec (bcd x) (bcd y) f).2.i = f.i ∧ (sbcDec (bcd x) (bcd y) f).2.d = f.d ∧
    (sbcDec (bcd x) (bcd y) f).2.b = f.b := by
  have carry := bitOf_le_one f.c
  generalize lowDigit : ((x % 10 : Nat) : Int) - (y % 10 : Nat) - (1 - bitOf f.c) +
    (if x % 10 + bitOf f.c < y % 10 + 1 then 10 else 0) = low
  generalize highDigit : ((x / 10 : Nat) : Int) - (y / 10 : Nat) -
    (if x % 10 + bitOf f.c < y % 10 + 1 then 1 else 0) = h
  obtain ⟨byte, c, -, z, n, others⟩ := sbcDec_nibbles f (bcd_toNat hx) (digit_lt_16 x)
    (bcd_toNat hy) (digit_lt_16 y) lowDigit.symm highDigit.symm
  have noBorrow : 0 ≤ h ↔ y + (1 - bitOf f.c) ≤ x := by split at highDigit <;> omega
  refine ⟨?_, c.trans noBorrow, by rw [z]; omega, by rw [n]; omega, others⟩
  apply BitVec.eq_of_toNat_eq
  rw [bcd_toNat (Nat.mod_lt _ (by decide))]
  by_cases fits : y + (1 - bitOf f.c) ≤ x
  · have unwrapped : (x + 100 + bitOf f.c - 1 - y) % 100 = x - y - (1 - bitOf f.c) := by omega
    rw [if_neg (by omega)] at byte
    rw [unwrapped]
    split at lowDigit <;> split at highDigit <;> omega
  · have wrapped : (x + 100 + bitOf f.c - 1 - y) % 100 = x + 100 + bitOf f.c - 1 - y := by omega
    rw [if_pos (by omega)] at byte
    rw [wrapped]
    split at lowDigit <;> split at highDigit <;> omega

end

end Sys2Proof.Laws

namespace Sys2Proof.Proofs

open Sys2Proof.Machine Sys2Proof.Laws

/-- Settles O5: the two bytes joined, the second at the next address. -/
theorem wordReadIsLittleEndian : Obligations.WordReadIsLittleEndian := by
  unfold Obligations.WordReadIsLittleEndian
  exact readWord_toNat

/-- Settles O11: an index is added to a word modulo 65536, to a zero-page pointer modulo 256. -/
theorem indexedAndIndirectAddresses : Obligations.IndexedAndIndirectAddresses := by
  unfold Obligations.IndexedAndIndirectAddresses
  intro s b w
  refine ⟨add_zext16_toNat w s.x, add_zext16_toNat w s.y, ?_, ?_, readWord_toNat s w⟩
  · rw [ea, readZeroPagePointer_toNat, BitVec.toNat_add]
  · rw [ea, add_zext16_toNat, readZeroPagePointer_toNat]

/-- Settles O12: the offset's sign extension as a number. -/
theorem branchTargetIsSigned : Obligations.BranchTargetIsSigned := by
  unfold Obligations.BranchTargetIsSigned
  exact branchTarget_toInt

/-- Settles O15: the two carries V compares differ exactly when the signed sum is out of range. -/
theorem binaryAddOverflowIsSigned : Obligations.BinaryAddOverflowIsSigned := by
  unfold Obligations.BinaryAddOverflowIsSigned
  exact adcBin_v_iff_signed

/-- Settles O17: the digits of the operands are the nibbles of their encodings. -/
theorem decimalArithmeticIsBcd : Obligations.DecimalArithmeticIsBcd := by
  unfold Obligations.DecimalArithmeticIsBcd
  intro x y f hx hy
  obtain ⟨sum, carryOut, addZ, addN, addI, addD, addB⟩ := adcDec_bcd hx hy f
  obtain ⟨difference, noBorrow, subZ, subN, subIDB⟩ := sbcDec_bcd hx hy f
  exact ⟨sum, carryOut, difference, noBorrow, addZ, addN, subZ, subN, addI, addD, addB, subIDB⟩

/-- Settles O18: R104 in one piece, on bytes given by their nibbles. -/
theorem decimalAddOnAllNibbles : Obligations.DecimalAddOnAllNibbles := by
  unfold Obligations.DecimalAddOnAllNibbles
  exact fun _ _ _ _ _ f hah hal hvh hvl sum =>
    adcDec_nibbles f (nibbles_toNat hah hal) hal (nibbles_toNat hvh hvl) hvl sum

/-- Settles O59: R106 in one piece, on bytes given by their nibbles. -/
theorem decimalSubtractOnAllNibbles : Obligations.DecimalSubtractOnAllNibbles := by
  unfold Obligations.DecimalSubtractOnAllNibbles
  exact fun _ _ _ _ _ _ f hah hal hvh hvl low high =>
    sbcDec_nibbles f (nibbles_toNat hah hal) hal (nibbles_toNat hvh hvl) hvl low high

end Sys2Proof.Proofs
end

section
/-! The host family (spec/70_reset_and_hazards.md R256 to R260): what the host's copy of bytes into
memory leaves in each cell, and what its dump answers. -/

namespace Sys2Proof.Laws

open Sys2Proof.Machine

/-- How far an address lies above a start, modulo 65536. -/
def distance (start addr : Addr) : Nat := (addr.toNat + 65536 - start.toNat) % 65536

theorem distance_self (start : Addr) : distance start start = 0 := by
  unfold distance
  omega

/-- The last cell of a copy that goes round the whole memory. -/
theorem distance_next_self (start : Addr) : distance (start + 1#16) start = 65535 := by
  have := start.isLt
  simp only [distance, BitVec.toNat_add, BitVec.toNat_ofNat]
  omega

theorem distance_eq_succ {start addr : Addr} (h : addr ≠ start) :
    distance start addr = distance (start + 1#16) addr + 1 := by
  have := start.isLt
  have := addr.isLt
  have : addr.toNat ≠ start.toNat := fun same => h (BitVec.eq_of_toNat_eq same)
  simp only [distance, BitVec.toNat_add, BitVec.toNat_ofNat]
  omega

/-- A copy of at most 65536 bytes writes no cell twice, so each cell it reaches holds its byte. -/
theorem readByte_placeBytes {bytes : List Byte} (h : bytes.length ≤ 65536) (start : Addr)
    (s : State) (addr : Addr) : readByte (placeBytes bytes start s) addr =
      (bytes[distance start addr]?).getD (readByte s addr) := by
  induction bytes generalizing start s with
  | nil => rfl
  | cons b bytes ih =>
    have short : bytes.length ≤ 65535 := Nat.le_of_succ_le_succ h
    rw [placeBytes, ih (by omega), readByte_writeByte]
    by_cases same : addr = start
    · rw [same, if_pos rfl, distance_next_self, distance_self, List.getElem?_eq_none short]
      rfl
    · rw [if_neg same, distance_eq_succ same, List.getElem?_cons_succ]

/-- A copy changes memory alone (R257). -/
theorem placeBytes_eq (bytes : List Byte) (start : Addr) (s : State) :
    placeBytes bytes start s = { s with mem := (placeBytes bytes start s).mem } := by
  induction bytes generalizing start s with
  | nil => rfl
  | cons b bytes ih => exact ih (start + 1#16) (writeByte s start b)

theorem hostDumpMemory_eq (s : State) (start : Addr) (length : Nat) :
    hostDumpMemory s start length = (List.range length).map
      fun k => readByte s (BitVec.ofNat 16 ((start.toNat + k) % 65536)) := by
  induction length generalizing start with
  | zero => rfl
  | succ length ih =>
    have first : BitVec.ofNat 16 ((start.toNat + 0) % 65536) = start := by
      rw [Nat.add_zero, Nat.mod_eq_of_lt start.isLt, BitVec.ofNat_toNat, BitVec.setWidth_eq]
    have later (k : Nat) :
        ((start + 1#16).toNat + k) % 65536 = (start.toNat + (k + 1)) % 65536 := by
      simp only [BitVec.toNat_add, BitVec.toNat_ofNat]
      omega
    rw [hostDumpMemory, ih, List.range_succ_eq_map, List.map_cons, List.map_map, first]
    simp only [later]
    rfl

end Sys2Proof.Laws

namespace Sys2Proof.Proofs

open Sys2Proof.Machine Sys2Proof.Laws

/-- Settles O56: by induction on the bytes copied and on the cells dumped. -/
theorem hostLoadsAndDumps : Obligations.HostLoadsAndDumps := by
  unfold Obligations.HostLoadsAndDumps
  intro s bytes start addr h
  have pc : (hostLoad s bytes).pc = s.config.initialPc :=
    congrArg State.pc (placeBytes_eq bytes s.config.initialPc (State.powerOn s.config))
  exact ⟨readByte_placeBytes h start s addr, placeBytes_eq bytes start s, rfl, rfl, rfl, pc,
    hostDumpMemory_eq s start bytes.length⟩

end Sys2Proof.Proofs
end
